-- ==== Sys2Proof/Word.lean ====
section
/-! DEFINITION. The two widths of the machine: `u8` and `u16` of 00_scope.md section 5. -/

namespace Sys2Proof

/-- `u8`: an 8-bit value (00_scope.md section 5; cells R10, memory bytes R40, opcodes R60). -/
abbrev Byte := BitVec 8

/-- `u16`: a 16-bit value (00_scope.md section 5; SP R14, `pc` R22, addresses R40). -/
abbrev Word := BitVec 16

end Sys2Proof
end

