-- ==== Sys2Proof/Syntax.lean ====
section
/-! DEFINITION. The instructions: `Instr`, one constructor per row of opcode_table.json (30_encoding.md R80), the operand
sets they name, and `Instr.kind`, the reading of a constructor as one of the decoded forms of 30_encoding.md R71.

An `Instr` carries operand descriptors only, never an operand byte: the decoder sees nothing but the opcode bytes
(R77), and `d8`, `r8`, `d16`, `a16` are fetched when the instruction runs (40_step.md R91, R92; log 2).
Constructor names: the mnemonic, then the operands in the table's order, `mHL` for `(HL)`, `mHLI` for `(HL+)`, `mHLD`
for `(HL-)`, `mBC` for `(BC)` and so on. -/

namespace Sys2Proof

/-- The 3-bit operand index (30_encoding.md R64), in index order; `m` is index 6, the memory byte at HL. -/
inductive R8 where
  | b | c | d | e | h | l | m | a
deriving DecidableEq, Repr

/-- The 2-bit pair index of loads, `INC`, `DEC` and `ADD HL` (30_encoding.md R65), in index order. -/
inductive R16 where
  | bc | de | hl | sp
deriving DecidableEq, Repr

/-- The 2-bit pair index of `PUSH` and `POP`, the stack set (30_encoding.md R66), in index order. -/
inductive R16S where
  | bc | de | hl | af
deriving DecidableEq, Repr

/-- The view index of the accumulator loads and stores (41_load8.md section 3), in index order: the plain views BC and
DE and the auto-modifying views HLI and HLD of HL (10_state.md R15 to R17). -/
inductive MemView where
  | bc | de | hli | hld
deriving DecidableEq, Repr

/-- The 2-bit condition index (30_encoding.md R67, 10_state.md R20), in index order. -/
inductive Cond where
  | nz | z | nc | c
deriving DecidableEq, Repr

/-- The eight arithmetic and logic families (30_encoding.md R70, 42_alu8.md R120), in index order. -/
inductive AluOp where
  | add | adc | sub | sbc | and | xor | or | cp
deriving DecidableEq, Repr

/-- The eight rotates, shifts and the swap of the extended table (30_encoding.md R73), in index order. -/
inductive RotOp where
  | rlc | rrc | rl | rr | sla | sra | swap | srl
deriving DecidableEq, Repr

/-- The five instruction formats (30_encoding.md R61). -/
inductive Format where
  | op | opD8 | opR8 | opD16 | cbOp
deriving DecidableEq, Repr

/-- The extended instructions by field (30_encoding.md R73): `x = 0` an operation on operand `z`, `x = 1, 2, 3` a bit
index and an operand. -/
inductive ExtOp where
  | rot (o : RotOp) (z : R8)
  | bit (b : BitVec 3) (z : R8)
  | res (b : BitVec 3) (z : R8)
  | set (b : BitVec 3) (z : R8)
deriving DecidableEq, Repr

/-- The decoded forms, under the labels of 30_encoding.md R71. `unimpl` carries the mnemonic, the opcode byte and the
conventional format of one of the 22 rows of 46_unimplemented.md R230; `unsupported` one of the 11 bytes of R74. -/
inductive Kind where
  | nop | halt
  | ld8 (dst src : R8) | ldi8 (dst : R8) | sta (v : MemView) | lda (v : MemView)
  | alu (f : AluOp) (z : R8) | aluImm (f : AluOp) | inc8 (dst : R8) | dec8 (dst : R8)
  | ld16 (r : R16) | inc16 (r : R16) | dec16 (r : R16) | addHL (r : R16) | push (r : R16S) | pop (r : R16S)
  | jp | jpcc (cc : Cond) | jr | jrcc (cc : Cond) | call | callcc (cc : Cond) | ret | retcc (cc : Cond) | reti
  | rst (t : BitVec 3)
  | escape | ext (x : ExtOp)
  | unimpl (mnemonic : String) (op : Byte) (format : Format)
  | unsupported (op : Byte)
deriving DecidableEq, Repr

/-- Every row of opcode_table.json (30_encoding.md R70, R73, R80): first the primary opcodes 0x00 to 0xFF, then the
extended opcodes 0x00 to 0xFF. The comment beside a constructor is its row: opcode, spelling, rule. -/
inductive Instr where
  | nop              -- 0x00 NOP (R170)
  | ld_BC_d16        -- 0x01 LD BC,d16 (R150)
  | ld_mBC_A         -- 0x02 LD (BC),A (R106)
  | inc_BC           -- 0x03 INC BC (R151)
  | inc_B            -- 0x04 INC B (R130)
  | dec_B            -- 0x05 DEC B (R131)
  | ld_B_d8          -- 0x06 LD B,d8 (R103)
  | rlca             -- 0x07 RLCA (R231)
  | ld_ma16_SP       -- 0x08 LD (a16),SP (R239)
  | add_HL_BC        -- 0x09 ADD HL,BC (R153)
  | ld_A_mBC         -- 0x0A LD A,(BC) (R110)
  | dec_BC           -- 0x0B DEC BC (R152)
  | inc_C            -- 0x0C INC C (R130)
  | dec_C            -- 0x0D DEC C (R131)
  | ld_C_d8          -- 0x0E LD C,d8 (R103)
  | rrca             -- 0x0F RRCA (R232)
  | stop             -- 0x10 STOP (R240)
  | ld_DE_d16        -- 0x11 LD DE,d16 (R150)
  | ld_mDE_A         -- 0x12 LD (DE),A (R107)
  | inc_DE           -- 0x13 INC DE (R151)
  | inc_D            -- 0x14 INC D (R130)
  | dec_D            -- 0x15 DEC D (R131)
  | ld_D_d8          -- 0x16 LD D,d8 (R103)
  | rla              -- 0x17 RLA (R233)
  | jr_r8            -- 0x18 JR r8 (R174)
  | add_HL_DE        -- 0x19 ADD HL,DE (R153)
  | ld_A_mDE         -- 0x1A LD A,(DE) (R111)
  | dec_DE           -- 0x1B DEC DE (R152)
  | inc_E            -- 0x1C INC E (R130)
  | dec_E            -- 0x1D DEC E (R131)
  | ld_E_d8          -- 0x1E LD E,d8 (R103)
  | rra              -- 0x1F RRA (R234)
  | jr_NZ_r8         -- 0x20 JR NZ,r8 (R175)
  | ld_HL_d16        -- 0x21 LD HL,d16 (R150)
  | ld_mHLI_A        -- 0x22 LD (HL+),A (R108)
  | inc_HL           -- 0x23 INC HL (R151)
  | inc_H            -- 0x24 INC H (R130)
  | dec_H            -- 0x25 DEC H (R131)
  | ld_H_d8          -- 0x26 LD H,d8 (R103)
  | daa              -- 0x27 DAA (R235)
  | jr_Z_r8          -- 0x28 JR Z,r8 (R175)
  | add_HL_HL        -- 0x29 ADD HL,HL (R153)
  | ld_A_mHLI        -- 0x2A LD A,(HL+) (R112)
  | dec_HL           -- 0x2B DEC HL (R152)
  | inc_L            -- 0x2C INC L (R130)
  | dec_L            -- 0x2D DEC L (R131)
  | ld_L_d8          -- 0x2E LD L,d8 (R103)
  | cpl              -- 0x2F CPL (R236)
  | jr_NC_r8         -- 0x30 JR NC,r8 (R175)
  | ld_SP_d16        -- 0x31 LD SP,d16 (R150)
  | ld_mHLD_A        -- 0x32 LD (HL-),A (R109)
  | inc_SP           -- 0x33 INC SP (R151)
  | inc_mHL          -- 0x34 INC (HL) (R130)
  | dec_mHL          -- 0x35 DEC (HL) (R131)
  | ld_mHL_d8        -- 0x36 LD (HL),d8 (R104)
  | scf              -- 0x37 SCF (R237)
  | jr_C_r8          -- 0x38 JR C,r8 (R175)
  | add_HL_SP        -- 0x39 ADD HL,SP (R153)
  | ld_A_mHLD        -- 0x3A LD A,(HL-) (R113)
  | dec_SP           -- 0x3B DEC SP (R152)
  | inc_A            -- 0x3C INC A (R130)
  | dec_A            -- 0x3D DEC A (R131)
  | ld_A_d8          -- 0x3E LD A,d8 (R103)
  | ccf              -- 0x3F CCF (R238)
  | ld_B_B           -- 0x40 LD B,B (R100)
  | ld_B_C           -- 0x41 LD B,C (R100)
  | ld_B_D           -- 0x42 LD B,D (R100)
  | ld_B_E           -- 0x43 LD B,E (R100)
  | ld_B_H           -- 0x44 LD B,H (R100)
  | ld_B_L           -- 0x45 LD B,L (R100)
  | ld_B_mHL         -- 0x46 LD B,(HL) (R101)
  | ld_B_A           -- 0x47 LD B,A (R100)
  | ld_C_B           -- 0x48 LD C,B (R100)
  | ld_C_C           -- 0x49 LD C,C (R100)
  | ld_C_D           -- 0x4A LD C,D (R100)
  | ld_C_E           -- 0x4B LD C,E (R100)
  | ld_C_H           -- 0x4C LD C,H (R100)
  | ld_C_L           -- 0x4D LD C,L (R100)
  | ld_C_mHL         -- 0x4E LD C,(HL) (R101)
  | ld_C_A           -- 0x4F LD C,A (R100)
  | ld_D_B           -- 0x50 LD D,B (R100)
  | ld_D_C           -- 0x51 LD D,C (R100)
  | ld_D_D           -- 0x52 LD D,D (R100)
  | ld_D_E           -- 0x53 LD D,E (R100)
  | ld_D_H           -- 0x54 LD D,H (R100)
  | ld_D_L           -- 0x55 LD D,L (R100)
  | ld_D_mHL         -- 0x56 LD D,(HL) (R101)
  | ld_D_A           -- 0x57 LD D,A (R100)
  | ld_E_B           -- 0x58 LD E,B (R100)
  | ld_E_C           -- 0x59 LD E,C (R100)
  | ld_E_D           -- 0x5A LD E,D (R100)
  | ld_E_E           -- 0x5B LD E,E (R100)
  | ld_E_H           -- 0x5C LD E,H (R100)
  | ld_E_L           -- 0x5D LD E,L (R100)
  | ld_E_mHL         -- 0x5E LD E,(HL) (R101)
  | ld_E_A           -- 0x5F LD E,A (R100)
  | ld_H_B           -- 0x60 LD H,B (R100)
  | ld_H_C           -- 0x61 LD H,C (R100)
  | ld_H_D           -- 0x62 LD H,D (R100)
  | ld_H_E           -- 0x63 LD H,E (R100)
  | ld_H_H           -- 0x64 LD H,H (R100)
  | ld_H_L           -- 0x65 LD H,L (R100)
  | ld_H_mHL         -- 0x66 LD H,(HL) (R101)
  | ld_H_A           -- 0x67 LD H,A (R100)
  | ld_L_B           -- 0x68 LD L,B (R100)
  | ld_L_C           -- 0x69 LD L,C (R100)
  | ld_L_D           -- 0x6A LD L,D (R100)
  | ld_L_E           -- 0x6B LD L,E (R100)
  | ld_L_H           -- 0x6C LD L,H (R100)
  | ld_L_L           -- 0x6D LD L,L (R100)
  | ld_L_mHL         -- 0x6E LD L,(HL) (R101)
  | ld_L_A           -- 0x6F LD L,A (R100)
  | ld_mHL_B         -- 0x70 LD (HL),B (R102)
  | ld_mHL_C         -- 0x71 LD (HL),C (R102)
  | ld_mHL_D         -- 0x72 LD (HL),D (R102)
  | ld_mHL_E         -- 0x73 LD (HL),E (R102)
  | ld_mHL_H         -- 0x74 LD (HL),H (R102)
  | ld_mHL_L         -- 0x75 LD (HL),L (R102)
  | halt             -- 0x76 HALT (R171)
  | ld_mHL_A         -- 0x77 LD (HL),A (R102)
  | ld_A_B           -- 0x78 LD A,B (R100)
  | ld_A_C           -- 0x79 LD A,C (R100)
  | ld_A_D           -- 0x7A LD A,D (R100)
  | ld_A_E           -- 0x7B LD A,E (R100)
  | ld_A_H           -- 0x7C LD A,H (R100)
  | ld_A_L           -- 0x7D LD A,L (R100)
  | ld_A_mHL         -- 0x7E LD A,(HL) (R101)
  | ld_A_A           -- 0x7F LD A,A (R100)
  | add_A_B          -- 0x80 ADD A,B (R122)
  | add_A_C          -- 0x81 ADD A,C (R122)
  | add_A_D          -- 0x82 ADD A,D (R122)
  | add_A_E          -- 0x83 ADD A,E (R122)
  | add_A_H          -- 0x84 ADD A,H (R122)
  | add_A_L          -- 0x85 ADD A,L (R122)
  | add_A_mHL        -- 0x86 ADD A,(HL) (R122)
  | add_A_A          -- 0x87 ADD A,A (R122)
  | adc_A_B          -- 0x88 ADC A,B (R123)
  | adc_A_C          -- 0x89 ADC A,C (R123)
  | adc_A_D          -- 0x8A ADC A,D (R123)
  | adc_A_E          -- 0x8B ADC A,E (R123)
  | adc_A_H          -- 0x8C ADC A,H (R123)
  | adc_A_L          -- 0x8D ADC A,L (R123)
  | adc_A_mHL        -- 0x8E ADC A,(HL) (R123)
  | adc_A_A          -- 0x8F ADC A,A (R123)
  | sub_B            -- 0x90 SUB B (R124)
  | sub_C            -- 0x91 SUB C (R124)
  | sub_D            -- 0x92 SUB D (R124)
  | sub_E            -- 0x93 SUB E (R124)
  | sub_H            -- 0x94 SUB H (R124)
  | sub_L            -- 0x95 SUB L (R124)
  | sub_mHL          -- 0x96 SUB (HL) (R124)
  | sub_A            -- 0x97 SUB A (R124)
  | sbc_A_B          -- 0x98 SBC A,B (R125)
  | sbc_A_C          -- 0x99 SBC A,C (R125)
  | sbc_A_D          -- 0x9A SBC A,D (R125)
  | sbc_A_E          -- 0x9B SBC A,E (R125)
  | sbc_A_H          -- 0x9C SBC A,H (R125)
  | sbc_A_L          -- 0x9D SBC A,L (R125)
  | sbc_A_mHL        -- 0x9E SBC A,(HL) (R125)
  | sbc_A_A          -- 0x9F SBC A,A (R125)
  | and_B            -- 0xA0 AND B (R126)
  | and_C            -- 0xA1 AND C (R126)
  | and_D            -- 0xA2 AND D (R126)
  | and_E            -- 0xA3 AND E (R126)
  | and_H            -- 0xA4 AND H (R126)
  | and_L            -- 0xA5 AND L (R126)
  | and_mHL          -- 0xA6 AND (HL) (R126)
  | and_A            -- 0xA7 AND A (R126)
  | xor_B            -- 0xA8 XOR B (R127)
  | xor_C            -- 0xA9 XOR C (R127)
  | xor_D            -- 0xAA XOR D (R127)
  | xor_E            -- 0xAB XOR E (R127)
  | xor_H            -- 0xAC XOR H (R127)
  | xor_L            -- 0xAD XOR L (R127)
  | xor_mHL          -- 0xAE XOR (HL) (R127)
  | xor_A            -- 0xAF XOR A (R127)
  | or_B             -- 0xB0 OR B (R128)
  | or_C             -- 0xB1 OR C (R128)
  | or_D             -- 0xB2 OR D (R128)
  | or_E             -- 0xB3 OR E (R128)
  | or_H             -- 0xB4 OR H (R128)
  | or_L             -- 0xB5 OR L (R128)
  | or_mHL           -- 0xB6 OR (HL) (R128)
  | or_A             -- 0xB7 OR A (R128)
  | cp_B             -- 0xB8 CP B (R129)
  | cp_C             -- 0xB9 CP C (R129)
  | cp_D             -- 0xBA CP D (R129)
  | cp_E             -- 0xBB CP E (R129)
  | cp_H             -- 0xBC CP H (R129)
  | cp_L             -- 0xBD CP L (R129)
  | cp_mHL           -- 0xBE CP (HL) (R129)
  | cp_A             -- 0xBF CP A (R129)
  | ret_NZ           -- 0xC0 RET NZ (R181)
  | pop_BC           -- 0xC1 POP BC (R155)
  | jp_NZ_a16        -- 0xC2 JP NZ,a16 (R173)
  | jp_a16           -- 0xC3 JP a16 (R172)
  | call_NZ_a16      -- 0xC4 CALL NZ,a16 (R179)
  | push_BC          -- 0xC5 PUSH BC (R154)
  | add_A_d8         -- 0xC6 ADD A,d8 (R122)
  | rst_00H          -- 0xC7 RST 00H (R184)
  | ret_Z            -- 0xC8 RET Z (R181)
  | ret              -- 0xC9 RET (R180)
  | jp_Z_a16         -- 0xCA JP Z,a16 (R173)
  | prefix_CB        -- 0xCB PREFIX CB (R200)
  | call_Z_a16       -- 0xCC CALL Z,a16 (R179)
  | call_a16         -- 0xCD CALL a16 (R178)
  | adc_A_d8         -- 0xCE ADC A,d8 (R123)
  | rst_08H          -- 0xCF RST 08H (R184)
  | ret_NC           -- 0xD0 RET NC (R181)
  | pop_DE           -- 0xD1 POP DE (R155)
  | jp_NC_a16        -- 0xD2 JP NC,a16 (R173)
  | unsupported_D3   -- 0xD3 UNSUPPORTED_D3 (R260)
  | call_NC_a16      -- 0xD4 CALL NC,a16 (R179)
  | push_DE          -- 0xD5 PUSH DE (R154)
  | sub_d8           -- 0xD6 SUB d8 (R124)
  | rst_10H          -- 0xD7 RST 10H (R184)
  | ret_C            -- 0xD8 RET C (R181)
  | reti             -- 0xD9 RETI (R182)
  | jp_C_a16         -- 0xDA JP C,a16 (R173)
  | unsupported_DB   -- 0xDB UNSUPPORTED_DB (R260)
  | call_C_a16       -- 0xDC CALL C,a16 (R179)
  | unsupported_DD   -- 0xDD UNSUPPORTED_DD (R260)
  | sbc_A_d8         -- 0xDE SBC A,d8 (R125)
  | rst_18H          -- 0xDF RST 18H (R184)
  | ldh_ma8_A        -- 0xE0 LDH (a8),A (R241)
  | pop_HL           -- 0xE1 POP HL (R155)
  | ld_mC_A          -- 0xE2 LD (C),A (R243)
  | unsupported_E3   -- 0xE3 UNSUPPORTED_E3 (R260)
  | unsupported_E4   -- 0xE4 UNSUPPORTED_E4 (R260)
  | push_HL          -- 0xE5 PUSH HL (R154)
  | and_d8           -- 0xE6 AND d8 (R126)
  | rst_20H          -- 0xE7 RST 20H (R184)
  | add_SP_r8        -- 0xE8 ADD SP,r8 (R247)
  | jp_mHL           -- 0xE9 JP (HL) (R249)
  | ld_ma16_A        -- 0xEA LD (a16),A (R245)
  | unsupported_EB   -- 0xEB UNSUPPORTED_EB (R260)
  | unsupported_EC   -- 0xEC UNSUPPORTED_EC (R260)
  | unsupported_ED   -- 0xED UNSUPPORTED_ED (R260)
  | xor_d8           -- 0xEE XOR d8 (R127)
  | rst_28H          -- 0xEF RST 28H (R184)
  | ldh_A_ma8        -- 0xF0 LDH A,(a8) (R242)
  | pop_AF           -- 0xF1 POP AF (R155)
  | ld_A_mC          -- 0xF2 LD A,(C) (R244)
  | di               -- 0xF3 DI (R251)
  | unsupported_F4   -- 0xF4 UNSUPPORTED_F4 (R260)
  | push_AF          -- 0xF5 PUSH AF (R154)
  | or_d8            -- 0xF6 OR d8 (R128)
  | rst_30H          -- 0xF7 RST 30H (R184)
  | ld_HL_SPr8       -- 0xF8 LD HL,SP+r8 (R248)
  | ld_SP_HL         -- 0xF9 LD SP,HL (R250)
  | ld_A_ma16        -- 0xFA LD A,(a16) (R246)
  | ei               -- 0xFB EI (R252)
  | unsupported_FC   -- 0xFC UNSUPPORTED_FC (R260)
  | unsupported_FD   -- 0xFD UNSUPPORTED_FD (R260)
  | cp_d8            -- 0xFE CP d8 (R129)
  | rst_38H          -- 0xFF RST 38H (R184)
  | rlc_B            -- 0xCB 0x00 RLC B (R203)
  | rlc_C            -- 0xCB 0x01 RLC C (R203)
  | rlc_D            -- 0xCB 0x02 RLC D (R203)
  | rlc_E            -- 0xCB 0x03 RLC E (R203)
  | rlc_H            -- 0xCB 0x04 RLC H (R203)
  | rlc_L            -- 0xCB 0x05 RLC L (R203)
  | rlc_mHL          -- 0xCB 0x06 RLC (HL) (R203)
  | rlc_A            -- 0xCB 0x07 RLC A (R203)
  | rrc_B            -- 0xCB 0x08 RRC B (R204)
  | rrc_C            -- 0xCB 0x09 RRC C (R204)
  | rrc_D            -- 0xCB 0x0A RRC D (R204)
  | rrc_E            -- 0xCB 0x0B RRC E (R204)
  | rrc_H            -- 0xCB 0x0C RRC H (R204)
  | rrc_L            -- 0xCB 0x0D RRC L (R204)
  | rrc_mHL          -- 0xCB 0x0E RRC (HL) (R204)
  | rrc_A            -- 0xCB 0x0F RRC A (R204)
  | rl_B             -- 0xCB 0x10 RL B (R205)
  | rl_C             -- 0xCB 0x11 RL C (R205)
  | rl_D             -- 0xCB 0x12 RL D (R205)
  | rl_E             -- 0xCB 0x13 RL E (R205)
  | rl_H             -- 0xCB 0x14 RL H (R205)
  | rl_L             -- 0xCB 0x15 RL L (R205)
  | rl_mHL           -- 0xCB 0x16 RL (HL) (R205)
  | rl_A             -- 0xCB 0x17 RL A (R205)
  | rr_B             -- 0xCB 0x18 RR B (R206)
  | rr_C             -- 0xCB 0x19 RR C (R206)
  | rr_D             -- 0xCB 0x1A RR D (R206)
  | rr_E             -- 0xCB 0x1B RR E (R206)
  | rr_H             -- 0xCB 0x1C RR H (R206)
  | rr_L             -- 0xCB 0x1D RR L (R206)
  | rr_mHL           -- 0xCB 0x1E RR (HL) (R206)
  | rr_A             -- 0xCB 0x1F RR A (R206)
  | sla_B            -- 0xCB 0x20 SLA B (R207)
  | sla_C            -- 0xCB 0x21 SLA C (R207)
  | sla_D            -- 0xCB 0x22 SLA D (R207)
  | sla_E            -- 0xCB 0x23 SLA E (R207)
  | sla_H            -- 0xCB 0x24 SLA H (R207)
  | sla_L            -- 0xCB 0x25 SLA L (R207)
  | sla_mHL          -- 0xCB 0x26 SLA (HL) (R207)
  | sla_A            -- 0xCB 0x27 SLA A (R207)
  | sra_B            -- 0xCB 0x28 SRA B (R208)
  | sra_C            -- 0xCB 0x29 SRA C (R208)
  | sra_D            -- 0xCB 0x2A SRA D (R208)
  | sra_E            -- 0xCB 0x2B SRA E (R208)
  | sra_H            -- 0xCB 0x2C SRA H (R208)
  | sra_L            -- 0xCB 0x2D SRA L (R208)
  | sra_mHL          -- 0xCB 0x2E SRA (HL) (R208)
  | sra_A            -- 0xCB 0x2F SRA A (R208)
  | swap_B           -- 0xCB 0x30 SWAP B (R209)
  | swap_C           -- 0xCB 0x31 SWAP C (R209)
  | swap_D           -- 0xCB 0x32 SWAP D (R209)
  | swap_E           -- 0xCB 0x33 SWAP E (R209)
  | swap_H           -- 0xCB 0x34 SWAP H (R209)
  | swap_L           -- 0xCB 0x35 SWAP L (R209)
  | swap_mHL         -- 0xCB 0x36 SWAP (HL) (R209)
  | swap_A           -- 0xCB 0x37 SWAP A (R209)
  | srl_B            -- 0xCB 0x38 SRL B (R210)
  | srl_C            -- 0xCB 0x39 SRL C (R210)
  | srl_D            -- 0xCB 0x3A SRL D (R210)
  | srl_E            -- 0xCB 0x3B SRL E (R210)
  | srl_H            -- 0xCB 0x3C SRL H (R210)
  | srl_L            -- 0xCB 0x3D SRL L (R210)
  | srl_mHL          -- 0xCB 0x3E SRL (HL) (R210)
  | srl_A            -- 0xCB 0x3F SRL A (R210)
  | bit_0_B          -- 0xCB 0x40 BIT 0,B (R211)
  | bit_0_C          -- 0xCB 0x41 BIT 0,C (R211)
  | bit_0_D          -- 0xCB 0x42 BIT 0,D (R211)
  | bit_0_E          -- 0xCB 0x43 BIT 0,E (R211)
  | bit_0_H          -- 0xCB 0x44 BIT 0,H (R211)
  | bit_0_L          -- 0xCB 0x45 BIT 0,L (R211)
  | bit_0_mHL        -- 0xCB 0x46 BIT 0,(HL) (R211)
  | bit_0_A          -- 0xCB 0x47 BIT 0,A (R211)
  | bit_1_B          -- 0xCB 0x48 BIT 1,B (R211)
  | bit_1_C          -- 0xCB 0x49 BIT 1,C (R211)
  | bit_1_D          -- 0xCB 0x4A BIT 1,D (R211)
  | bit_1_E          -- 0xCB 0x4B BIT 1,E (R211)
  | bit_1_H          -- 0xCB 0x4C BIT 1,H (R211)
  | bit_1_L          -- 0xCB 0x4D BIT 1,L (R211)
  | bit_1_mHL        -- 0xCB 0x4E BIT 1,(HL) (R211)
  | bit_1_A          -- 0xCB 0x4F BIT 1,A (R211)
  | bit_2_B          -- 0xCB 0x50 BIT 2,B (R211)
  | bit_2_C          -- 0xCB 0x51 BIT 2,C (R211)
  | bit_2_D          -- 0xCB 0x52 BIT 2,D (R211)
  | bit_2_E          -- 0xCB 0x53 BIT 2,E (R211)
  | bit_2_H          -- 0xCB 0x54 BIT 2,H (R211)
  | bit_2_L          -- 0xCB 0x55 BIT 2,L (R211)
  | bit_2_mHL        -- 0xCB 0x56 BIT 2,(HL) (R211)
  | bit_2_A          -- 0xCB 0x57 BIT 2,A (R211)
  | bit_3_B          -- 0xCB 0x58 BIT 3,B (R211)
  | bit_3_C          -- 0xCB 0x59 BIT 3,C (R211)
  | bit_3_D          -- 0xCB 0x5A BIT 3,D (R211)
  | bit_3_E          -- 0xCB 0x5B BIT 3,E (R211)
  | bit_3_H          -- 0xCB 0x5C BIT 3,H (R211)
  | bit_3_L          -- 0xCB 0x5D BIT 3,L (R211)
  | bit_3_mHL        -- 0xCB 0x5E BIT 3,(HL) (R211)
  | bit_3_A          -- 0xCB 0x5F BIT 3,A (R211)
  | bit_4_B          -- 0xCB 0x60 BIT 4,B (R211)
  | bit_4_C          -- 0xCB 0x61 BIT 4,C (R211)
  | bit_4_D          -- 0xCB 0x62 BIT 4,D (R211)
  | bit_4_E          -- 0xCB 0x63 BIT 4,E (R211)
  | bit_4_H          -- 0xCB 0x64 BIT 4,H (R211)
  | bit_4_L          -- 0xCB 0x65 BIT 4,L (R211)
  | bit_4_mHL        -- 0xCB 0x66 BIT 4,(HL) (R211)
  | bit_4_A          -- 0xCB 0x67 BIT 4,A (R211)
  | bit_5_B          -- 0xCB 0x68 BIT 5,B (R211)
  | bit_5_C          -- 0xCB 0x69 BIT 5,C (R211)
  | bit_5_D          -- 0xCB 0x6A BIT 5,D (R211)
  | bit_5_E          -- 0xCB 0x6B BIT 5,E (R211)
  | bit_5_H          -- 0xCB 0x6C BIT 5,H (R211)
  | bit_5_L          -- 0xCB 0x6D BIT 5,L (R211)
  | bit_5_mHL        -- 0xCB 0x6E BIT 5,(HL) (R211)
  | bit_5_A          -- 0xCB 0x6F BIT 5,A (R211)
  | bit_6_B          -- 0xCB 0x70 BIT 6,B (R211)
  | bit_6_C          -- 0xCB 0x71 BIT 6,C (R211)
  | bit_6_D          -- 0xCB 0x72 BIT 6,D (R211)
  | bit_6_E          -- 0xCB 0x73 BIT 6,E (R211)
  | bit_6_H          -- 0xCB 0x74 BIT 6,H (R211)
  | bit_6_L          -- 0xCB 0x75 BIT 6,L (R211)
  | bit_6_mHL        -- 0xCB 0x76 BIT 6,(HL) (R211)
  | bit_6_A          -- 0xCB 0x77 BIT 6,A (R211)
  | bit_7_B          -- 0xCB 0x78 BIT 7,B (R211)
  | bit_7_C          -- 0xCB 0x79 BIT 7,C (R211)
  | bit_7_D          -- 0xCB 0x7A BIT 7,D (R211)
  | bit_7_E          -- 0xCB 0x7B BIT 7,E (R211)
  | bit_7_H          -- 0xCB 0x7C BIT 7,H (R211)
  | bit_7_L          -- 0xCB 0x7D BIT 7,L (R211)
  | bit_7_mHL        -- 0xCB 0x7E BIT 7,(HL) (R211)
  | bit_7_A          -- 0xCB 0x7F BIT 7,A (R211)
  | res_0_B          -- 0xCB 0x80 RES 0,B (R212)
  | res_0_C          -- 0xCB 0x81 RES 0,C (R212)
  | res_0_D          -- 0xCB 0x82 RES 0,D (R212)
  | res_0_E          -- 0xCB 0x83 RES 0,E (R212)
  | res_0_H          -- 0xCB 0x84 RES 0,H (R212)
  | res_0_L          -- 0xCB 0x85 RES 0,L (R212)
  | res_0_mHL        -- 0xCB 0x86 RES 0,(HL) (R212)
  | res_0_A          -- 0xCB 0x87 RES 0,A (R212)
  | res_1_B          -- 0xCB 0x88 RES 1,B (R212)
  | res_1_C          -- 0xCB 0x89 RES 1,C (R212)
  | res_1_D          -- 0xCB 0x8A RES 1,D (R212)
  | res_1_E          -- 0xCB 0x8B RES 1,E (R212)
  | res_1_H          -- 0xCB 0x8C RES 1,H (R212)
  | res_1_L          -- 0xCB 0x8D RES 1,L (R212)
  | res_1_mHL        -- 0xCB 0x8E RES 1,(HL) (R212)
  | res_1_A          -- 0xCB 0x8F RES 1,A (R212)
  | res_2_B          -- 0xCB 0x90 RES 2,B (R212)
  | res_2_C          -- 0xCB 0x91 RES 2,C (R212)
  | res_2_D          -- 0xCB 0x92 RES 2,D (R212)
  | res_2_E          -- 0xCB 0x93 RES 2,E (R212)
  | res_2_H          -- 0xCB 0x94 RES 2,H (R212)
  | res_2_L          -- 0xCB 0x95 RES 2,L (R212)
  | res_2_mHL        -- 0xCB 0x96 RES 2,(HL) (R212)
  | res_2_A          -- 0xCB 0x97 RES 2,A (R212)
  | res_3_B          -- 0xCB 0x98 RES 3,B (R212)
  | res_3_C          -- 0xCB 0x99 RES 3,C (R212)
  | res_3_D          -- 0xCB 0x9A RES 3,D (R212)
  | res_3_E          -- 0xCB 0x9B RES 3,E (R212)
  | res_3_H          -- 0xCB 0x9C RES 3,H (R212)
  | res_3_L          -- 0xCB 0x9D RES 3,L (R212)
  | res_3_mHL        -- 0xCB 0x9E RES 3,(HL) (R212)
  | res_3_A          -- 0xCB 0x9F RES 3,A (R212)
  | res_4_B          -- 0xCB 0xA0 RES 4,B (R212)
  | res_4_C          -- 0xCB 0xA1 RES 4,C (R212)
  | res_4_D          -- 0xCB 0xA2 RES 4,D (R212)
  | res_4_E          -- 0xCB 0xA3 RES 4,E (R212)
  | res_4_H          -- 0xCB 0xA4 RES 4,H (R212)
  | res_4_L          -- 0xCB 0xA5 RES 4,L (R212)
  | res_4_mHL        -- 0xCB 0xA6 RES 4,(HL) (R212)
  | res_4_A          -- 0xCB 0xA7 RES 4,A (R212)
  | res_5_B          -- 0xCB 0xA8 RES 5,B (R212)
  | res_5_C          -- 0xCB 0xA9 RES 5,C (R212)
  | res_5_D          -- 0xCB 0xAA RES 5,D (R212)
  | res_5_E          -- 0xCB 0xAB RES 5,E (R212)
  | res_5_H          -- 0xCB 0xAC RES 5,H (R212)
  | res_5_L          -- 0xCB 0xAD RES 5,L (R212)
  | res_5_mHL        -- 0xCB 0xAE RES 5,(HL) (R212)
  | res_5_A          -- 0xCB 0xAF RES 5,A (R212)
  | res_6_B          -- 0xCB 0xB0 RES 6,B (R212)
  | res_6_C          -- 0xCB 0xB1 RES 6,C (R212)
  | res_6_D          -- 0xCB 0xB2 RES 6,D (R212)
  | res_6_E          -- 0xCB 0xB3 RES 6,E (R212)
  | res_6_H          -- 0xCB 0xB4 RES 6,H (R212)
  | res_6_L          -- 0xCB 0xB5 RES 6,L (R212)
  | res_6_mHL        -- 0xCB 0xB6 RES 6,(HL) (R212)
  | res_6_A          -- 0xCB 0xB7 RES 6,A (R212)
  | res_7_B          -- 0xCB 0xB8 RES 7,B (R212)
  | res_7_C          -- 0xCB 0xB9 RES 7,C (R212)
  | res_7_D          -- 0xCB 0xBA RES 7,D (R212)
  | res_7_E          -- 0xCB 0xBB RES 7,E (R212)
  | res_7_H          -- 0xCB 0xBC RES 7,H (R212)
  | res_7_L          -- 0xCB 0xBD RES 7,L (R212)
  | res_7_mHL        -- 0xCB 0xBE RES 7,(HL) (R212)
  | res_7_A          -- 0xCB 0xBF RES 7,A (R212)
  | set_0_B          -- 0xCB 0xC0 SET 0,B (R213)
  | set_0_C          -- 0xCB 0xC1 SET 0,C (R213)
  | set_0_D          -- 0xCB 0xC2 SET 0,D (R213)
  | set_0_E          -- 0xCB 0xC3 SET 0,E (R213)
  | set_0_H          -- 0xCB 0xC4 SET 0,H (R213)
  | set_0_L          -- 0xCB 0xC5 SET 0,L (R213)
  | set_0_mHL        -- 0xCB 0xC6 SET 0,(HL) (R213)
  | set_0_A          -- 0xCB 0xC7 SET 0,A (R213)
  | set_1_B          -- 0xCB 0xC8 SET 1,B (R213)
  | set_1_C          -- 0xCB 0xC9 SET 1,C (R213)
  | set_1_D          -- 0xCB 0xCA SET 1,D (R213)
  | set_1_E          -- 0xCB 0xCB SET 1,E (R213)
  | set_1_H          -- 0xCB 0xCC SET 1,H (R213)
  | set_1_L          -- 0xCB 0xCD SET 1,L (R213)
  | set_1_mHL        -- 0xCB 0xCE SET 1,(HL) (R213)
  | set_1_A          -- 0xCB 0xCF SET 1,A (R213)
  | set_2_B          -- 0xCB 0xD0 SET 2,B (R213)
  | set_2_C          -- 0xCB 0xD1 SET 2,C (R213)
  | set_2_D          -- 0xCB 0xD2 SET 2,D (R213)
  | set_2_E          -- 0xCB 0xD3 SET 2,E (R213)
  | set_2_H          -- 0xCB 0xD4 SET 2,H (R213)
  | set_2_L          -- 0xCB 0xD5 SET 2,L (R213)
  | set_2_mHL        -- 0xCB 0xD6 SET 2,(HL) (R213)
  | set_2_A          -- 0xCB 0xD7 SET 2,A (R213)
  | set_3_B          -- 0xCB 0xD8 SET 3,B (R213)
  | set_3_C          -- 0xCB 0xD9 SET 3,C (R213)
  | set_3_D          -- 0xCB 0xDA SET 3,D (R213)
  | set_3_E          -- 0xCB 0xDB SET 3,E (R213)
  | set_3_H          -- 0xCB 0xDC SET 3,H (R213)
  | set_3_L          -- 0xCB 0xDD SET 3,L (R213)
  | set_3_mHL        -- 0xCB 0xDE SET 3,(HL) (R213)
  | set_3_A          -- 0xCB 0xDF SET 3,A (R213)
  | set_4_B          -- 0xCB 0xE0 SET 4,B (R213)
  | set_4_C          -- 0xCB 0xE1 SET 4,C (R213)
  | set_4_D          -- 0xCB 0xE2 SET 4,D (R213)
  | set_4_E          -- 0xCB 0xE3 SET 4,E (R213)
  | set_4_H          -- 0xCB 0xE4 SET 4,H (R213)
  | set_4_L          -- 0xCB 0xE5 SET 4,L (R213)
  | set_4_mHL        -- 0xCB 0xE6 SET 4,(HL) (R213)
  | set_4_A          -- 0xCB 0xE7 SET 4,A (R213)
  | set_5_B          -- 0xCB 0xE8 SET 5,B (R213)
  | set_5_C          -- 0xCB 0xE9 SET 5,C (R213)
  | set_5_D          -- 0xCB 0xEA SET 5,D (R213)
  | set_5_E          -- 0xCB 0xEB SET 5,E (R213)
  | set_5_H          -- 0xCB 0xEC SET 5,H (R213)
  | set_5_L          -- 0xCB 0xED SET 5,L (R213)
  | set_5_mHL        -- 0xCB 0xEE SET 5,(HL) (R213)
  | set_5_A          -- 0xCB 0xEF SET 5,A (R213)
  | set_6_B          -- 0xCB 0xF0 SET 6,B (R213)
  | set_6_C          -- 0xCB 0xF1 SET 6,C (R213)
  | set_6_D          -- 0xCB 0xF2 SET 6,D (R213)
  | set_6_E          -- 0xCB 0xF3 SET 6,E (R213)
  | set_6_H          -- 0xCB 0xF4 SET 6,H (R213)
  | set_6_L          -- 0xCB 0xF5 SET 6,L (R213)
  | set_6_mHL        -- 0xCB 0xF6 SET 6,(HL) (R213)
  | set_6_A          -- 0xCB 0xF7 SET 6,A (R213)
  | set_7_B          -- 0xCB 0xF8 SET 7,B (R213)
  | set_7_C          -- 0xCB 0xF9 SET 7,C (R213)
  | set_7_D          -- 0xCB 0xFA SET 7,D (R213)
  | set_7_E          -- 0xCB 0xFB SET 7,E (R213)
  | set_7_H          -- 0xCB 0xFC SET 7,H (R213)
  | set_7_L          -- 0xCB 0xFD SET 7,L (R213)
  | set_7_mHL        -- 0xCB 0xFE SET 7,(HL) (R213)
  | set_7_A          -- 0xCB 0xFF SET 7,A (R213)
deriving DecidableEq, Repr

/-- The decoded form of an instruction (30_encoding.md R71, R73), row by row of the table. -/
def Instr.kind : Instr → Kind
  | .nop => .nop
  | .ld_BC_d16 => .ld16 .bc
  | .ld_mBC_A => .sta .bc
  | .inc_BC => .inc16 .bc
  | .inc_B => .inc8 .b
  | .dec_B => .dec8 .b
  | .ld_B_d8 => .ldi8 .b
  | .rlca => .unimpl "RLCA" 0x07#8 .op
  | .ld_ma16_SP => .unimpl "LD (a16),SP" 0x08#8 .opD16
  | .add_HL_BC => .addHL .bc
  | .ld_A_mBC => .lda .bc
  | .dec_BC => .dec16 .bc
  | .inc_C => .inc8 .c
  | .dec_C => .dec8 .c
  | .ld_C_d8 => .ldi8 .c
  | .rrca => .unimpl "RRCA" 0x0F#8 .op
  | .stop => .unimpl "STOP" 0x10#8 .op
  | .ld_DE_d16 => .ld16 .de
  | .ld_mDE_A => .sta .de
  | .inc_DE => .inc16 .de
  | .inc_D => .inc8 .d
  | .dec_D => .dec8 .d
  | .ld_D_d8 => .ldi8 .d
  | .rla => .unimpl "RLA" 0x17#8 .op
  | .jr_r8 => .jr
  | .add_HL_DE => .addHL .de
  | .ld_A_mDE => .lda .de
  | .dec_DE => .dec16 .de
  | .inc_E => .inc8 .e
  | .dec_E => .dec8 .e
  | .ld_E_d8 => .ldi8 .e
  | .rra => .unimpl "RRA" 0x1F#8 .op
  | .jr_NZ_r8 => .jrcc .nz
  | .ld_HL_d16 => .ld16 .hl
  | .ld_mHLI_A => .sta .hli
  | .inc_HL => .inc16 .hl
  | .inc_H => .inc8 .h
  | .dec_H => .dec8 .h
  | .ld_H_d8 => .ldi8 .h
  | .daa => .unimpl "DAA" 0x27#8 .op
  | .jr_Z_r8 => .jrcc .z
  | .add_HL_HL => .addHL .hl
  | .ld_A_mHLI => .lda .hli
  | .dec_HL => .dec16 .hl
  | .inc_L => .inc8 .l
  | .dec_L => .dec8 .l
  | .ld_L_d8 => .ldi8 .l
  | .cpl => .unimpl "CPL" 0x2F#8 .op
  | .jr_NC_r8 => .jrcc .nc
  | .ld_SP_d16 => .ld16 .sp
  | .ld_mHLD_A => .sta .hld
  | .inc_SP => .inc16 .sp
  | .inc_mHL => .inc8 .m
  | .dec_mHL => .dec8 .m
  | .ld_mHL_d8 => .ldi8 .m
  | .scf => .unimpl "SCF" 0x37#8 .op
  | .jr_C_r8 => .jrcc .c
  | .add_HL_SP => .addHL .sp
  | .ld_A_mHLD => .lda .hld
  | .dec_SP => .dec16 .sp
  | .inc_A => .inc8 .a
  | .dec_A => .dec8 .a
  | .ld_A_d8 => .ldi8 .a
  | .ccf => .unimpl "CCF" 0x3F#8 .op
  | .ld_B_B => .ld8 .b .b
  | .ld_B_C => .ld8 .b .c
  | .ld_B_D => .ld8 .b .d
  | .ld_B_E => .ld8 .b .e
  | .ld_B_H => .ld8 .b .h
  | .ld_B_L => .ld8 .b .l
  | .ld_B_mHL => .ld8 .b .m
  | .ld_B_A => .ld8 .b .a
  | .ld_C_B => .ld8 .c .b
  | .ld_C_C => .ld8 .c .c
  | .ld_C_D => .ld8 .c .d
  | .ld_C_E => .ld8 .c .e
  | .ld_C_H => .ld8 .c .h
  | .ld_C_L => .ld8 .c .l
  | .ld_C_mHL => .ld8 .c .m
  | .ld_C_A => .ld8 .c .a
  | .ld_D_B => .ld8 .d .b
  | .ld_D_C => .ld8 .d .c
  | .ld_D_D => .ld8 .d .d
  | .ld_D_E => .ld8 .d .e
  | .ld_D_H => .ld8 .d .h
  | .ld_D_L => .ld8 .d .l
  | .ld_D_mHL => .ld8 .d .m
  | .ld_D_A => .ld8 .d .a
  | .ld_E_B => .ld8 .e .b
  | .ld_E_C => .ld8 .e .c
  | .ld_E_D => .ld8 .e .d
  | .ld_E_E => .ld8 .e .e
  | .ld_E_H => .ld8 .e .h
  | .ld_E_L => .ld8 .e .l
  | .ld_E_mHL => .ld8 .e .m
  | .ld_E_A => .ld8 .e .a
  | .ld_H_B => .ld8 .h .b
  | .ld_H_C => .ld8 .h .c
  | .ld_H_D => .ld8 .h .d
  | .ld_H_E => .ld8 .h .e
  | .ld_H_H => .ld8 .h .h
  | .ld_H_L => .ld8 .h .l
  | .ld_H_mHL => .ld8 .h .m
  | .ld_H_A => .ld8 .h .a
  | .ld_L_B => .ld8 .l .b
  | .ld_L_C => .ld8 .l .c
  | .ld_L_D => .ld8 .l .d
  | .ld_L_E => .ld8 .l .e
  | .ld_L_H => .ld8 .l .h
  | .ld_L_L => .ld8 .l .l
  | .ld_L_mHL => .ld8 .l .m
  | .ld_L_A => .ld8 .l .a
  | .ld_mHL_B => .ld8 .m .b
  | .ld_mHL_C => .ld8 .m .c
  | .ld_mHL_D => .ld8 .m .d
  | .ld_mHL_E => .ld8 .m .e
  | .ld_mHL_H => .ld8 .m .h
  | .ld_mHL_L => .ld8 .m .l
  | .halt => .halt
  | .ld_mHL_A => .ld8 .m .a
  | .ld_A_B => .ld8 .a .b
  | .ld_A_C => .ld8 .a .c
  | .ld_A_D => .ld8 .a .d
  | .ld_A_E => .ld8 .a .e
  | .ld_A_H => .ld8 .a .h
  | .ld_A_L => .ld8 .a .l
  | .ld_A_mHL => .ld8 .a .m
  | .ld_A_A => .ld8 .a .a
  | .add_A_B => .alu .add .b
  | .add_A_C => .alu .add .c
  | .add_A_D => .alu .add .d
  | .add_A_E => .alu .add .e
  | .add_A_H => .alu .add .h
  | .add_A_L => .alu .add .l
  | .add_A_mHL => .alu .add .m
  | .add_A_A => .alu .add .a
  | .adc_A_B => .alu .adc .b
  | .adc_A_C => .alu .adc .c
  | .adc_A_D => .alu .adc .d
  | .adc_A_E => .alu .adc .e
  | .adc_A_H => .alu .adc .h
  | .adc_A_L => .alu .adc .l
  | .adc_A_mHL => .alu .adc .m
  | .adc_A_A => .alu .adc .a
  | .sub_B => .alu .sub .b
  | .sub_C => .alu .sub .c
  | .sub_D => .alu .sub .d
  | .sub_E => .alu .sub .e
  | .sub_H => .alu .sub .h
  | .sub_L => .alu .sub .l
  | .sub_mHL => .alu .sub .m
  | .sub_A => .alu .sub .a
  | .sbc_A_B => .alu .sbc .b
  | .sbc_A_C => .alu .sbc .c
  | .sbc_A_D => .alu .sbc .d
  | .sbc_A_E => .alu .sbc .e
  | .sbc_A_H => .alu .sbc .h
  | .sbc_A_L => .alu .sbc .l
  | .sbc_A_mHL => .alu .sbc .m
  | .sbc_A_A => .alu .sbc .a
  | .and_B => .alu .and .b
  | .and_C => .alu .and .c
  | .and_D => .alu .and .d
  | .and_E => .alu .and .e
  | .and_H => .alu .and .h
  | .and_L => .alu .and .l
  | .and_mHL => .alu .and .m
  | .and_A => .alu .and .a
  | .xor_B => .alu .xor .b
  | .xor_C => .alu .xor .c
  | .xor_D => .alu .xor .d
  | .xor_E => .alu .xor .e
  | .xor_H => .alu .xor .h
  | .xor_L => .alu .xor .l
  | .xor_mHL => .alu .xor .m
  | .xor_A => .alu .xor .a
  | .or_B => .alu .or .b
  | .or_C => .alu .or .c
  | .or_D => .alu .or .d
  | .or_E => .alu .or .e
  | .or_H => .alu .or .h
  | .or_L => .alu .or .l
  | .or_mHL => .alu .or .m
  | .or_A => .alu .or .a
  | .cp_B => .alu .cp .b
  | .cp_C => .alu .cp .c
  | .cp_D => .alu .cp .d
  | .cp_E => .alu .cp .e
  | .cp_H => .alu .cp .h
  | .cp_L => .alu .cp .l
  | .cp_mHL => .alu .cp .m
  | .cp_A => .alu .cp .a
  | .ret_NZ => .retcc .nz
  | .pop_BC => .pop .bc
  | .jp_NZ_a16 => .jpcc .nz
  | .jp_a16 => .jp
  | .call_NZ_a16 => .callcc .nz
  | .push_BC => .push .bc
  | .add_A_d8 => .aluImm .add
  | .rst_00H => .rst 0#3
  | .ret_Z => .retcc .z
  | .ret => .ret
  | .jp_Z_a16 => .jpcc .z
  | .prefix_CB => .escape
  | .call_Z_a16 => .callcc .z
  | .call_a16 => .call
  | .adc_A_d8 => .aluImm .adc
  | .rst_08H => .rst 1#3
  | .ret_NC => .retcc .nc
  | .pop_DE => .pop .de
  | .jp_NC_a16 => .jpcc .nc
  | .unsupported_D3 => .unsupported 0xD3#8
  | .call_NC_a16 => .callcc .nc
  | .push_DE => .push .de
  | .sub_d8 => .aluImm .sub
  | .rst_10H => .rst 2#3
  | .ret_C => .retcc .c
  | .reti => .reti
  | .jp_C_a16 => .jpcc .c
  | .unsupported_DB => .unsupported 0xDB#8
  | .call_C_a16 => .callcc .c
  | .unsupported_DD => .unsupported 0xDD#8
  | .sbc_A_d8 => .aluImm .sbc
  | .rst_18H => .rst 3#3
  | .ldh_ma8_A => .unimpl "LDH (a8),A" 0xE0#8 .opD8
  | .pop_HL => .pop .hl
  | .ld_mC_A => .unimpl "LD (C),A" 0xE2#8 .op
  | .unsupported_E3 => .unsupported 0xE3#8
  | .unsupported_E4 => .unsupported 0xE4#8
  | .push_HL => .push .hl
  | .and_d8 => .aluImm .and
  | .rst_20H => .rst 4#3
  | .add_SP_r8 => .unimpl "ADD SP,r8" 0xE8#8 .opR8
  | .jp_mHL => .unimpl "JP (HL)" 0xE9#8 .op
  | .ld_ma16_A => .unimpl "LD (a16),A" 0xEA#8 .opD16
  | .unsupported_EB => .unsupported 0xEB#8
  | .unsupported_EC => .unsupported 0xEC#8
  | .unsupported_ED => .unsupported 0xED#8
  | .xor_d8 => .aluImm .xor
  | .rst_28H => .rst 5#3
  | .ldh_A_ma8 => .unimpl "LDH A,(a8)" 0xF0#8 .opD8
  | .pop_AF => .pop .af
  | .ld_A_mC => .unimpl "LD A,(C)" 0xF2#8 .op
  | .di => .unimpl "DI" 0xF3#8 .op
  | .unsupported_F4 => .unsupported 0xF4#8
  | .push_AF => .push .af
  | .or_d8 => .aluImm .or
  | .rst_30H => .rst 6#3
  | .ld_HL_SPr8 => .unimpl "LD HL,SP+r8" 0xF8#8 .opR8
  | .ld_SP_HL => .unimpl "LD SP,HL" 0xF9#8 .op
  | .ld_A_ma16 => .unimpl "LD A,(a16)" 0xFA#8 .opD16
  | .ei => .unimpl "EI" 0xFB#8 .op
  | .unsupported_FC => .unsupported 0xFC#8
  | .unsupported_FD => .unsupported 0xFD#8
  | .cp_d8 => .aluImm .cp
  | .rst_38H => .rst 7#3
  | .rlc_B => .ext (.rot .rlc .b)
  | .rlc_C => .ext (.rot .rlc .c)
  | .rlc_D => .ext (.rot .rlc .d)
  | .rlc_E => .ext (.rot .rlc .e)
  | .rlc_H => .ext (.rot .rlc .h)
  | .rlc_L => .ext (.rot .rlc .l)
  | .rlc_mHL => .ext (.rot .rlc .m)
  | .rlc_A => .ext (.rot .rlc .a)
  | .rrc_B => .ext (.rot .rrc .b)
  | .rrc_C => .ext (.rot .rrc .c)
  | .rrc_D => .ext (.rot .rrc .d)
  | .rrc_E => .ext (.rot .rrc .e)
  | .rrc_H => .ext (.rot .rrc .h)
  | .rrc_L => .ext (.rot .rrc .l)
  | .rrc_mHL => .ext (.rot .rrc .m)
  | .rrc_A => .ext (.rot .rrc .a)
  | .rl_B => .ext (.rot .rl .b)
  | .rl_C => .ext (.rot .rl .c)
  | .rl_D => .ext (.rot .rl .d)
  | .rl_E => .ext (.rot .rl .e)
  | .rl_H => .ext (.rot .rl .h)
  | .rl_L => .ext (.rot .rl .l)
  | .rl_mHL => .ext (.rot .rl .m)
  | .rl_A => .ext (.rot .rl .a)
  | .rr_B => .ext (.rot .rr .b)
  | .rr_C => .ext (.rot .rr .c)
  | .rr_D => .ext (.rot .rr .d)
  | .rr_E => .ext (.rot .rr .e)
  | .rr_H => .ext (.rot .rr .h)
  | .rr_L => .ext (.rot .rr .l)
  | .rr_mHL => .ext (.rot .rr .m)
  | .rr_A => .ext (.rot .rr .a)
  | .sla_B => .ext (.rot .sla .b)
  | .sla_C => .ext (.rot .sla .c)
  | .sla_D => .ext (.rot .sla .d)
  | .sla_E => .ext (.rot .sla .e)
  | .sla_H => .ext (.rot .sla .h)
  | .sla_L => .ext (.rot .sla .l)
  | .sla_mHL => .ext (.rot .sla .m)
  | .sla_A => .ext (.rot .sla .a)
  | .sra_B => .ext (.rot .sra .b)
  | .sra_C => .ext (.rot .sra .c)
  | .sra_D => .ext (.rot .sra .d)
  | .sra_E => .ext (.rot .sra .e)
  | .sra_H => .ext (.rot .sra .h)
  | .sra_L => .ext (.rot .sra .l)
  | .sra_mHL => .ext (.rot .sra .m)
  | .sra_A => .ext (.rot .sra .a)
  | .swap_B => .ext (.rot .swap .b)
  | .swap_C => .ext (.rot .swap .c)
  | .swap_D => .ext (.rot .swap .d)
  | .swap_E => .ext (.rot .swap .e)
  | .swap_H => .ext (.rot .swap .h)
  | .swap_L => .ext (.rot .swap .l)
  | .swap_mHL => .ext (.rot .swap .m)
  | .swap_A => .ext (.rot .swap .a)
  | .srl_B => .ext (.rot .srl .b)
  | .srl_C => .ext (.rot .srl .c)
  | .srl_D => .ext (.rot .srl .d)
  | .srl_E => .ext (.rot .srl .e)
  | .srl_H => .ext (.rot .srl .h)
  | .srl_L => .ext (.rot .srl .l)
  | .srl_mHL => .ext (.rot .srl .m)
  | .srl_A => .ext (.rot .srl .a)
  | .bit_0_B => .ext (.bit 0#3 .b)
  | .bit_0_C => .ext (.bit 0#3 .c)
  | .bit_0_D => .ext (.bit 0#3 .d)
  | .bit_0_E => .ext (.bit 0#3 .e)
  | .bit_0_H => .ext (.bit 0#3 .h)
  | .bit_0_L => .ext (.bit 0#3 .l)
  | .bit_0_mHL => .ext (.bit 0#3 .m)
  | .bit_0_A => .ext (.bit 0#3 .a)
  | .bit_1_B => .ext (.bit 1#3 .b)
  | .bit_1_C => .ext (.bit 1#3 .c)
  | .bit_1_D => .ext (.bit 1#3 .d)
  | .bit_1_E => .ext (.bit 1#3 .e)
  | .bit_1_H => .ext (.bit 1#3 .h)
  | .bit_1_L => .ext (.bit 1#3 .l)
  | .bit_1_mHL => .ext (.bit 1#3 .m)
  | .bit_1_A => .ext (.bit 1#3 .a)
  | .bit_2_B => .ext (.bit 2#3 .b)
  | .bit_2_C => .ext (.bit 2#3 .c)
  | .bit_2_D => .ext (.bit 2#3 .d)
  | .bit_2_E => .ext (.bit 2#3 .e)
  | .bit_2_H => .ext (.bit 2#3 .h)
  | .bit_2_L => .ext (.bit 2#3 .l)
  | .bit_2_mHL => .ext (.bit 2#3 .m)
  | .bit_2_A => .ext (.bit 2#3 .a)
  | .bit_3_B => .ext (.bit 3#3 .b)
  | .bit_3_C => .ext (.bit 3#3 .c)
  | .bit_3_D => .ext (.bit 3#3 .d)
  | .bit_3_E => .ext (.bit 3#3 .e)
  | .bit_3_H => .ext (.bit 3#3 .h)
  | .bit_3_L => .ext (.bit 3#3 .l)
  | .bit_3_mHL => .ext (.bit 3#3 .m)
  | .bit_3_A => .ext (.bit 3#3 .a)
  | .bit_4_B => .ext (.bit 4#3 .b)
  | .bit_4_C => .ext (.bit 4#3 .c)
  | .bit_4_D => .ext (.bit 4#3 .d)
  | .bit_4_E => .ext (.bit 4#3 .e)
  | .bit_4_H => .ext (.bit 4#3 .h)
  | .bit_4_L => .ext (.bit 4#3 .l)
  | .bit_4_mHL => .ext (.bit 4#3 .m)
  | .bit_4_A => .ext (.bit 4#3 .a)
  | .bit_5_B => .ext (.bit 5#3 .b)
  | .bit_5_C => .ext (.bit 5#3 .c)
  | .bit_5_D => .ext (.bit 5#3 .d)
  | .bit_5_E => .ext (.bit 5#3 .e)
  | .bit_5_H => .ext (.bit 5#3 .h)
  | .bit_5_L => .ext (.bit 5#3 .l)
  | .bit_5_mHL => .ext (.bit 5#3 .m)
  | .bit_5_A => .ext (.bit 5#3 .a)
  | .bit_6_B => .ext (.bit 6#3 .b)
  | .bit_6_C => .ext (.bit 6#3 .c)
  | .bit_6_D => .ext (.bit 6#3 .d)
  | .bit_6_E => .ext (.bit 6#3 .e)
  | .bit_6_H => .ext (.bit 6#3 .h)
  | .bit_6_L => .ext (.bit 6#3 .l)
  | .bit_6_mHL => .ext (.bit 6#3 .m)
  | .bit_6_A => .ext (.bit 6#3 .a)
  | .bit_7_B => .ext (.bit 7#3 .b)
  | .bit_7_C => .ext (.bit 7#3 .c)
  | .bit_7_D => .ext (.bit 7#3 .d)
  | .bit_7_E => .ext (.bit 7#3 .e)
  | .bit_7_H => .ext (.bit 7#3 .h)
  | .bit_7_L => .ext (.bit 7#3 .l)
  | .bit_7_mHL => .ext (.bit 7#3 .m)
  | .bit_7_A => .ext (.bit 7#3 .a)
  | .res_0_B => .ext (.res 0#3 .b)
  | .res_0_C => .ext (.res 0#3 .c)
  | .res_0_D => .ext (.res 0#3 .d)
  | .res_0_E => .ext (.res 0#3 .e)
  | .res_0_H => .ext (.res 0#3 .h)
  | .res_0_L => .ext (.res 0#3 .l)
  | .res_0_mHL => .ext (.res 0#3 .m)
  | .res_0_A => .ext (.res 0#3 .a)
  | .res_1_B => .ext (.res 1#3 .b)
  | .res_1_C => .ext (.res 1#3 .c)
  | .res_1_D => .ext (.res 1#3 .d)
  | .res_1_E => .ext (.res 1#3 .e)
  | .res_1_H => .ext (.res 1#3 .h)
  | .res_1_L => .ext (.res 1#3 .l)
  | .res_1_mHL => .ext (.res 1#3 .m)
  | .res_1_A => .ext (.res 1#3 .a)
  | .res_2_B => .ext (.res 2#3 .b)
  | .res_2_C => .ext (.res 2#3 .c)
  | .res_2_D => .ext (.res 2#3 .d)
  | .res_2_E => .ext (.res 2#3 .e)
  | .res_2_H => .ext (.res 2#3 .h)
  | .res_2_L => .ext (.res 2#3 .l)
  | .res_2_mHL => .ext (.res 2#3 .m)
  | .res_2_A => .ext (.res 2#3 .a)
  | .res_3_B => .ext (.res 3#3 .b)
  | .res_3_C => .ext (.res 3#3 .c)
  | .res_3_D => .ext (.res 3#3 .d)
  | .res_3_E => .ext (.res 3#3 .e)
  | .res_3_H => .ext (.res 3#3 .h)
  | .res_3_L => .ext (.res 3#3 .l)
  | .res_3_mHL => .ext (.res 3#3 .m)
  | .res_3_A => .ext (.res 3#3 .a)
  | .res_4_B => .ext (.res 4#3 .b)
  | .res_4_C => .ext (.res 4#3 .c)
  | .res_4_D => .ext (.res 4#3 .d)
  | .res_4_E => .ext (.res 4#3 .e)
  | .res_4_H => .ext (.res 4#3 .h)
  | .res_4_L => .ext (.res 4#3 .l)
  | .res_4_mHL => .ext (.res 4#3 .m)
  | .res_4_A => .ext (.res 4#3 .a)
  | .res_5_B => .ext (.res 5#3 .b)
  | .res_5_C => .ext (.res 5#3 .c)
  | .res_5_D => .ext (.res 5#3 .d)
  | .res_5_E => .ext (.res 5#3 .e)
  | .res_5_H => .ext (.res 5#3 .h)
  | .res_5_L => .ext (.res 5#3 .l)
  | .res_5_mHL => .ext (.res 5#3 .m)
  | .res_5_A => .ext (.res 5#3 .a)
  | .res_6_B => .ext (.res 6#3 .b)
  | .res_6_C => .ext (.res 6#3 .c)
  | .res_6_D => .ext (.res 6#3 .d)
  | .res_6_E => .ext (.res 6#3 .e)
  | .res_6_H => .ext (.res 6#3 .h)
  | .res_6_L => .ext (.res 6#3 .l)
  | .res_6_mHL => .ext (.res 6#3 .m)
  | .res_6_A => .ext (.res 6#3 .a)
  | .res_7_B => .ext (.res 7#3 .b)
  | .res_7_C => .ext (.res 7#3 .c)
  | .res_7_D => .ext (.res 7#3 .d)
  | .res_7_E => .ext (.res 7#3 .e)
  | .res_7_H => .ext (.res 7#3 .h)
  | .res_7_L => .ext (.res 7#3 .l)
  | .res_7_mHL => .ext (.res 7#3 .m)
  | .res_7_A => .ext (.res 7#3 .a)
  | .set_0_B => .ext (.set 0#3 .b)
  | .set_0_C => .ext (.set 0#3 .c)
  | .set_0_D => .ext (.set 0#3 .d)
  | .set_0_E => .ext (.set 0#3 .e)
  | .set_0_H => .ext (.set 0#3 .h)
  | .set_0_L => .ext (.set 0#3 .l)
  | .set_0_mHL => .ext (.set 0#3 .m)
  | .set_0_A => .ext (.set 0#3 .a)
  | .set_1_B => .ext (.set 1#3 .b)
  | .set_1_C => .ext (.set 1#3 .c)
  | .set_1_D => .ext (.set 1#3 .d)
  | .set_1_E => .ext (.set 1#3 .e)
  | .set_1_H => .ext (.set 1#3 .h)
  | .set_1_L => .ext (.set 1#3 .l)
  | .set_1_mHL => .ext (.set 1#3 .m)
  | .set_1_A => .ext (.set 1#3 .a)
  | .set_2_B => .ext (.set 2#3 .b)
  | .set_2_C => .ext (.set 2#3 .c)
  | .set_2_D => .ext (.set 2#3 .d)
  | .set_2_E => .ext (.set 2#3 .e)
  | .set_2_H => .ext (.set 2#3 .h)
  | .set_2_L => .ext (.set 2#3 .l)
  | .set_2_mHL => .ext (.set 2#3 .m)
  | .set_2_A => .ext (.set 2#3 .a)
  | .set_3_B => .ext (.set 3#3 .b)
  | .set_3_C => .ext (.set 3#3 .c)
  | .set_3_D => .ext (.set 3#3 .d)
  | .set_3_E => .ext (.set 3#3 .e)
  | .set_3_H => .ext (.set 3#3 .h)
  | .set_3_L => .ext (.set 3#3 .l)
  | .set_3_mHL => .ext (.set 3#3 .m)
  | .set_3_A => .ext (.set 3#3 .a)
  | .set_4_B => .ext (.set 4#3 .b)
  | .set_4_C => .ext (.set 4#3 .c)
  | .set_4_D => .ext (.set 4#3 .d)
  | .set_4_E => .ext (.set 4#3 .e)
  | .set_4_H => .ext (.set 4#3 .h)
  | .set_4_L => .ext (.set 4#3 .l)
  | .set_4_mHL => .ext (.set 4#3 .m)
  | .set_4_A => .ext (.set 4#3 .a)
  | .set_5_B => .ext (.set 5#3 .b)
  | .set_5_C => .ext (.set 5#3 .c)
  | .set_5_D => .ext (.set 5#3 .d)
  | .set_5_E => .ext (.set 5#3 .e)
  | .set_5_H => .ext (.set 5#3 .h)
  | .set_5_L => .ext (.set 5#3 .l)
  | .set_5_mHL => .ext (.set 5#3 .m)
  | .set_5_A => .ext (.set 5#3 .a)
  | .set_6_B => .ext (.set 6#3 .b)
  | .set_6_C => .ext (.set 6#3 .c)
  | .set_6_D => .ext (.set 6#3 .d)
  | .set_6_E => .ext (.set 6#3 .e)
  | .set_6_H => .ext (.set 6#3 .h)
  | .set_6_L => .ext (.set 6#3 .l)
  | .set_6_mHL => .ext (.set 6#3 .m)
  | .set_6_A => .ext (.set 6#3 .a)
  | .set_7_B => .ext (.set 7#3 .b)
  | .set_7_C => .ext (.set 7#3 .c)
  | .set_7_D => .ext (.set 7#3 .d)
  | .set_7_E => .ext (.set 7#3 .e)
  | .set_7_H => .ext (.set 7#3 .h)
  | .set_7_L => .ext (.set 7#3 .l)
  | .set_7_mHL => .ext (.set 7#3 .m)
  | .set_7_A => .ext (.set 7#3 .a)

end Sys2Proof
end

