-- ==== Sys2Proof/WellFormed.lean ====
section
/-! DEFINITION. Which terms of `Instr` are whole instructions with an architectural meaning. -/

namespace Sys2Proof

/-- A well-formed instruction: not one of the eleven markers of bytes with "no architectural meaning on this hardware"
(30_encoding.md R74), and not the bare escape, whose instruction is the extended one named by the byte after it (R72). -/
def Instr.wellFormed (i : Instr) : Bool :=
  match i.kind with
  | .unsupported _ => false
  | .escape => false
  | .nop | .halt | .ld8 _ _ | .ldi8 _ | .sta _ | .lda _ | .alu _ _ | .aluImm _ | .inc8 _ | .dec8 _
  | .ld16 _ | .inc16 _ | .dec16 _ | .addHL _ | .push _ | .pop _
  | .jp | .jpcc _ | .jr | .jrcc _ | .call | .callcc _ | .ret | .retcc _ | .reti | .rst _
  | .ext _ | .unimpl _ _ _ => true

end Sys2Proof
end

