-- ==== Sys2Proof/Decode.lean ====
section
/-! DEFINITION. The decoder of 30_encoding.md, total on every byte (R71, R73, R76), the encoder written from the same
field tables (R61 to R70), instruction formats and lengths (R61, R62), and the assembler spelling (R78). Every
definition here is pure: no register, no flag, no memory (R77). -/

namespace Sys2Proof

/-! ## Fields (R63) -/

/-- `x = op[7:6]`, the quarter of the table (R63). -/
def fieldX (op : Byte) : BitVec 2 := op.extractLsb' 6 2

/-- `y = op[5:3]`, the row index (R63). -/
def fieldY (op : Byte) : BitVec 3 := op.extractLsb' 3 3

/-- `z = op[2:0]`, the column index (R63). -/
def fieldZ (op : Byte) : BitVec 3 := op.extractLsb' 0 3

/-- `p = op[5:4]`, the 2-bit register-pair index (R63). -/
def fieldP (op : Byte) : BitVec 2 := op.extractLsb' 4 2

/-- `q = op[3]` (R63). -/
def fieldQ (op : Byte) : Bool := op.getLsbD 3

/-- `cc = op[4:3]`, the 2-bit condition index (R63). -/
def fieldCC (op : Byte) : BitVec 2 := op.extractLsb' 3 2

/-- The member of a four-entry list that a 2-bit index names: `[v0, v1, v2, v3][i]`. -/
def pick4 {α : Type} (i : BitVec 2) (v0 v1 v2 v3 : α) : α :=
  match i.toNat with
  | 0 => v0
  | 1 => v1
  | 2 => v2
  | _ => v3

/-- The member of an eight-entry list that a 3-bit index names: `[v0, ..., v7][i]`. -/
def pick8 {α : Type} (i : BitVec 3) (v0 v1 v2 v3 v4 v5 v6 v7 : α) : α :=
  match i.toNat with
  | 0 => v0
  | 1 => v1
  | 2 => v2
  | 3 => v3
  | 4 => v4
  | 5 => v5
  | 6 => v6
  | _ => v7

/-! ## Operand indices (R64 to R68, R73) -/

/-- The operand index of R64, by index. -/
def R8.ofIndex (i : BitVec 3) : R8 :=
  pick8 i .b .c .d .e .h .l .m .a

/-- The index of a member: The operand index of R64. -/
def R8.index : R8 → BitVec 3
  | .b => 0 | .c => 1 | .d => 2 | .e => 3 | .h => 4 | .l => 5 | .m => 6 | .a => 7

/-- The pair index of R65, by index. -/
def R16.ofIndex (i : BitVec 2) : R16 :=
  pick4 i .bc .de .hl .sp

/-- The index of a member: The pair index of R65. -/
def R16.index : R16 → BitVec 2
  | .bc => 0 | .de => 1 | .hl => 2 | .sp => 3

/-- The pair index of the stack set, R66, by index. -/
def R16S.ofIndex (i : BitVec 2) : R16S :=
  pick4 i .bc .de .hl .af

/-- The index of a member: The pair index of the stack set, R66. -/
def R16S.index : R16S → BitVec 2
  | .bc => 0 | .de => 1 | .hl => 2 | .af => 3

/-- The view index of R70, `z = 2`, by index. -/
def MemView.ofIndex (i : BitVec 2) : MemView :=
  pick4 i .bc .de .hli .hld

/-- The index of a member: The view index of R70, `z = 2`. -/
def MemView.index : MemView → BitVec 2
  | .bc => 0 | .de => 1 | .hli => 2 | .hld => 3

/-- The condition index of R67, by index. -/
def Cond.ofIndex (i : BitVec 2) : Cond :=
  pick4 i .nz .z .nc .c

/-- The index of a member: The condition index of R67. -/
def Cond.index : Cond → BitVec 2
  | .nz => 0 | .z => 1 | .nc => 2 | .c => 3

/-- The family index `fff` of R70, by index. -/
def AluOp.ofIndex (i : BitVec 3) : AluOp :=
  pick8 i .add .adc .sub .sbc .and .xor .or .cp

/-- The index of a member: The family index `fff` of R70. -/
def AluOp.index : AluOp → BitVec 3
  | .add => 0 | .adc => 1 | .sub => 2 | .sbc => 3 | .and => 4 | .xor => 5 | .or => 6 | .cp => 7

/-- The operation index of R73, `x = 0`, by index. -/
def RotOp.ofIndex (i : BitVec 3) : RotOp :=
  pick8 i .rlc .rrc .rl .rr .sla .sra .swap .srl

/-- The index of a member: The operation index of R73, `x = 0`. -/
def RotOp.index : RotOp → BitVec 3
  | .rlc => 0 | .rrc => 1 | .rl => 2 | .rr => 3 | .sla => 4 | .sra => 5 | .swap => 6 | .srl => 7

/-! ## The instructions of one pattern, by operand (R70, R73) -/

/-- `01 ddd sss` (R70): the 64-opcode load block by destination and source. The position (6, 6) is taken out of the
block by R71: it is `HALT`, "special-cased before the generic block match". -/
def ldInstr (dst src : R8) : Instr :=
  match dst, src with
  | .b, .b => .ld_B_B | .b, .c => .ld_B_C | .b, .d => .ld_B_D | .b, .e => .ld_B_E
  | .b, .h => .ld_B_H | .b, .l => .ld_B_L | .b, .m => .ld_B_mHL | .b, .a => .ld_B_A
  | .c, .b => .ld_C_B | .c, .c => .ld_C_C | .c, .d => .ld_C_D | .c, .e => .ld_C_E
  | .c, .h => .ld_C_H | .c, .l => .ld_C_L | .c, .m => .ld_C_mHL | .c, .a => .ld_C_A
  | .d, .b => .ld_D_B | .d, .c => .ld_D_C | .d, .d => .ld_D_D | .d, .e => .ld_D_E
  | .d, .h => .ld_D_H | .d, .l => .ld_D_L | .d, .m => .ld_D_mHL | .d, .a => .ld_D_A
  | .e, .b => .ld_E_B | .e, .c => .ld_E_C | .e, .d => .ld_E_D | .e, .e => .ld_E_E
  | .e, .h => .ld_E_H | .e, .l => .ld_E_L | .e, .m => .ld_E_mHL | .e, .a => .ld_E_A
  | .h, .b => .ld_H_B | .h, .c => .ld_H_C | .h, .d => .ld_H_D | .h, .e => .ld_H_E
  | .h, .h => .ld_H_H | .h, .l => .ld_H_L | .h, .m => .ld_H_mHL | .h, .a => .ld_H_A
  | .l, .b => .ld_L_B | .l, .c => .ld_L_C | .l, .d => .ld_L_D | .l, .e => .ld_L_E
  | .l, .h => .ld_L_H | .l, .l => .ld_L_L | .l, .m => .ld_L_mHL | .l, .a => .ld_L_A
  | .m, .b => .ld_mHL_B | .m, .c => .ld_mHL_C | .m, .d => .ld_mHL_D | .m, .e => .ld_mHL_E
  | .m, .h => .ld_mHL_H | .m, .l => .ld_mHL_L | .m, .m => .halt | .m, .a => .ld_mHL_A
  | .a, .b => .ld_A_B | .a, .c => .ld_A_C | .a, .d => .ld_A_D | .a, .e => .ld_A_E
  | .a, .h => .ld_A_H | .a, .l => .ld_A_L | .a, .m => .ld_A_mHL | .a, .a => .ld_A_A

/-- `00 ddd 110` (R70): load an immediate byte. -/
def ldImmInstr (dst : R8) : Instr :=
  match dst with
  | .b => .ld_B_d8
  | .c => .ld_C_d8
  | .d => .ld_D_d8
  | .e => .ld_E_d8
  | .h => .ld_H_d8
  | .l => .ld_L_d8
  | .m => .ld_mHL_d8
  | .a => .ld_A_d8

/-- `00 yyy 100` (R70): 8-bit increment. -/
def incInstr (dst : R8) : Instr :=
  match dst with
  | .b => .inc_B
  | .c => .inc_C
  | .d => .inc_D
  | .e => .inc_E
  | .h => .inc_H
  | .l => .inc_L
  | .m => .inc_mHL
  | .a => .inc_A

/-- `00 yyy 101` (R70): 8-bit decrement. -/
def decInstr (dst : R8) : Instr :=
  match dst with
  | .b => .dec_B
  | .c => .dec_C
  | .d => .dec_D
  | .e => .dec_E
  | .h => .dec_H
  | .l => .dec_L
  | .m => .dec_mHL
  | .a => .dec_A

/-- `10 fff zzz` (R70): the eight arithmetic and logic families on an indexed operand. -/
def aluInstr (f : AluOp) (z : R8) : Instr :=
  match f, z with
  | .add, .b => .add_A_B | .add, .c => .add_A_C | .add, .d => .add_A_D | .add, .e => .add_A_E
  | .add, .h => .add_A_H | .add, .l => .add_A_L | .add, .m => .add_A_mHL | .add, .a => .add_A_A
  | .adc, .b => .adc_A_B | .adc, .c => .adc_A_C | .adc, .d => .adc_A_D | .adc, .e => .adc_A_E
  | .adc, .h => .adc_A_H | .adc, .l => .adc_A_L | .adc, .m => .adc_A_mHL | .adc, .a => .adc_A_A
  | .sub, .b => .sub_B | .sub, .c => .sub_C | .sub, .d => .sub_D | .sub, .e => .sub_E
  | .sub, .h => .sub_H | .sub, .l => .sub_L | .sub, .m => .sub_mHL | .sub, .a => .sub_A
  | .sbc, .b => .sbc_A_B | .sbc, .c => .sbc_A_C | .sbc, .d => .sbc_A_D | .sbc, .e => .sbc_A_E
  | .sbc, .h => .sbc_A_H | .sbc, .l => .sbc_A_L | .sbc, .m => .sbc_A_mHL | .sbc, .a => .sbc_A_A
  | .and, .b => .and_B | .and, .c => .and_C | .and, .d => .and_D | .and, .e => .and_E
  | .and, .h => .and_H | .and, .l => .and_L | .and, .m => .and_mHL | .and, .a => .and_A
  | .xor, .b => .xor_B | .xor, .c => .xor_C | .xor, .d => .xor_D | .xor, .e => .xor_E
  | .xor, .h => .xor_H | .xor, .l => .xor_L | .xor, .m => .xor_mHL | .xor, .a => .xor_A
  | .or, .b => .or_B | .or, .c => .or_C | .or, .d => .or_D | .or, .e => .or_E
  | .or, .h => .or_H | .or, .l => .or_L | .or, .m => .or_mHL | .or, .a => .or_A
  | .cp, .b => .cp_B | .cp, .c => .cp_C | .cp, .d => .cp_D | .cp, .e => .cp_E
  | .cp, .h => .cp_H | .cp, .l => .cp_L | .cp, .m => .cp_mHL | .cp, .a => .cp_A

/-- `11 fff 110` (R70): the eight families on an immediate. -/
def aluImmInstr (f : AluOp) : Instr :=
  match f with
  | .add => .add_A_d8
  | .adc => .adc_A_d8
  | .sub => .sub_d8
  | .sbc => .sbc_A_d8
  | .and => .and_d8
  | .xor => .xor_d8
  | .or => .or_d8
  | .cp => .cp_d8

/-- `00 pp0 001` (R70): 16-bit load. -/
def ld16Instr (r : R16) : Instr :=
  match r with | .bc => .ld_BC_d16 | .de => .ld_DE_d16 | .hl => .ld_HL_d16 | .sp => .ld_SP_d16

/-- `00 pp0 011` (R70): 16-bit increment. -/
def inc16Instr (r : R16) : Instr :=
  match r with | .bc => .inc_BC | .de => .inc_DE | .hl => .inc_HL | .sp => .inc_SP

/-- `00 pp1 011` (R70): 16-bit decrement. -/
def dec16Instr (r : R16) : Instr :=
  match r with | .bc => .dec_BC | .de => .dec_DE | .hl => .dec_HL | .sp => .dec_SP

/-- `00 pp1 001` (R70): add to HL. -/
def addHLInstr (r : R16) : Instr :=
  match r with | .bc => .add_HL_BC | .de => .add_HL_DE | .hl => .add_HL_HL | .sp => .add_HL_SP

/-- `11 pp0 101` (R70): push of the stack set (R66). -/
def pushInstr (r : R16S) : Instr :=
  match r with | .bc => .push_BC | .de => .push_DE | .hl => .push_HL | .af => .push_AF

/-- `11 pp0 001` (R70): pop of the stack set (R66). -/
def popInstr (r : R16S) : Instr :=
  match r with | .bc => .pop_BC | .de => .pop_DE | .hl => .pop_HL | .af => .pop_AF

/-- `00 pp0 010` (R70): store A through a view (41_load8.md section 3). -/
def staInstr (v : MemView) : Instr :=
  match v with | .bc => .ld_mBC_A | .de => .ld_mDE_A | .hli => .ld_mHLI_A | .hld => .ld_mHLD_A

/-- `00 pp1 010` (R70): load A through a view (41_load8.md section 3). -/
def ldaInstr (v : MemView) : Instr :=
  match v with | .bc => .ld_A_mBC | .de => .ld_A_mDE | .hli => .ld_A_mHLI | .hld => .ld_A_mHLD

/-- `00 1cc 000` (R70): conditional relative jump. -/
def jrccInstr (cc : Cond) : Instr :=
  match cc with | .nz => .jr_NZ_r8 | .z => .jr_Z_r8 | .nc => .jr_NC_r8 | .c => .jr_C_r8

/-- `11 0cc 000` (R70): conditional return. -/
def retccInstr (cc : Cond) : Instr :=
  match cc with | .nz => .ret_NZ | .z => .ret_Z | .nc => .ret_NC | .c => .ret_C

/-- `11 0cc 010` (R70): conditional jump. -/
def jpccInstr (cc : Cond) : Instr :=
  match cc with | .nz => .jp_NZ_a16 | .z => .jp_Z_a16 | .nc => .jp_NC_a16 | .c => .jp_C_a16

/-- `11 0cc 100` (R70): conditional call. -/
def callccInstr (cc : Cond) : Instr :=
  match cc with | .nz => .call_NZ_a16 | .z => .call_Z_a16 | .nc => .call_NC_a16 | .c => .call_C_a16

/-- `11 ttt 111` (R70): restart to `8 * t` (R68). -/
def rstInstr (t : BitVec 3) : Instr :=
  pick8 t .rst_00H .rst_08H .rst_10H .rst_18H .rst_20H .rst_28H .rst_30H .rst_38H

/-- `00 ooo zzz` of the extended table (R73): rotates, shifts and swap. -/
def rotInstr (o : RotOp) (z : R8) : Instr :=
  match o, z with
  | .rlc, .b => .rlc_B | .rlc, .c => .rlc_C | .rlc, .d => .rlc_D | .rlc, .e => .rlc_E
  | .rlc, .h => .rlc_H | .rlc, .l => .rlc_L | .rlc, .m => .rlc_mHL | .rlc, .a => .rlc_A
  | .rrc, .b => .rrc_B | .rrc, .c => .rrc_C | .rrc, .d => .rrc_D | .rrc, .e => .rrc_E
  | .rrc, .h => .rrc_H | .rrc, .l => .rrc_L | .rrc, .m => .rrc_mHL | .rrc, .a => .rrc_A
  | .rl, .b => .rl_B | .rl, .c => .rl_C | .rl, .d => .rl_D | .rl, .e => .rl_E
  | .rl, .h => .rl_H | .rl, .l => .rl_L | .rl, .m => .rl_mHL | .rl, .a => .rl_A
  | .rr, .b => .rr_B | .rr, .c => .rr_C | .rr, .d => .rr_D | .rr, .e => .rr_E
  | .rr, .h => .rr_H | .rr, .l => .rr_L | .rr, .m => .rr_mHL | .rr, .a => .rr_A
  | .sla, .b => .sla_B | .sla, .c => .sla_C | .sla, .d => .sla_D | .sla, .e => .sla_E
  | .sla, .h => .sla_H | .sla, .l => .sla_L | .sla, .m => .sla_mHL | .sla, .a => .sla_A
  | .sra, .b => .sra_B | .sra, .c => .sra_C | .sra, .d => .sra_D | .sra, .e => .sra_E
  | .sra, .h => .sra_H | .sra, .l => .sra_L | .sra, .m => .sra_mHL | .sra, .a => .sra_A
  | .swap, .b => .swap_B | .swap, .c => .swap_C | .swap, .d => .swap_D | .swap, .e => .swap_E
  | .swap, .h => .swap_H | .swap, .l => .swap_L | .swap, .m => .swap_mHL | .swap, .a => .swap_A
  | .srl, .b => .srl_B | .srl, .c => .srl_C | .srl, .d => .srl_D | .srl, .e => .srl_E
  | .srl, .h => .srl_H | .srl, .l => .srl_L | .srl, .m => .srl_mHL | .srl, .a => .srl_A

/-- `01 bbb zzz` of the extended table (R73): bit test. -/
def bitInstr (b : BitVec 3) (z : R8) : Instr :=
  match z with
  | .b => pick8 b .bit_0_B .bit_1_B .bit_2_B .bit_3_B .bit_4_B .bit_5_B .bit_6_B .bit_7_B
  | .c => pick8 b .bit_0_C .bit_1_C .bit_2_C .bit_3_C .bit_4_C .bit_5_C .bit_6_C .bit_7_C
  | .d => pick8 b .bit_0_D .bit_1_D .bit_2_D .bit_3_D .bit_4_D .bit_5_D .bit_6_D .bit_7_D
  | .e => pick8 b .bit_0_E .bit_1_E .bit_2_E .bit_3_E .bit_4_E .bit_5_E .bit_6_E .bit_7_E
  | .h => pick8 b .bit_0_H .bit_1_H .bit_2_H .bit_3_H .bit_4_H .bit_5_H .bit_6_H .bit_7_H
  | .l => pick8 b .bit_0_L .bit_1_L .bit_2_L .bit_3_L .bit_4_L .bit_5_L .bit_6_L .bit_7_L
  | .m => pick8 b .bit_0_mHL .bit_1_mHL .bit_2_mHL .bit_3_mHL .bit_4_mHL .bit_5_mHL .bit_6_mHL .bit_7_mHL
  | .a => pick8 b .bit_0_A .bit_1_A .bit_2_A .bit_3_A .bit_4_A .bit_5_A .bit_6_A .bit_7_A

/-- `10 bbb zzz` of the extended table (R73): bit reset. -/
def resInstr (b : BitVec 3) (z : R8) : Instr :=
  match z with
  | .b => pick8 b .res_0_B .res_1_B .res_2_B .res_3_B .res_4_B .res_5_B .res_6_B .res_7_B
  | .c => pick8 b .res_0_C .res_1_C .res_2_C .res_3_C .res_4_C .res_5_C .res_6_C .res_7_C
  | .d => pick8 b .res_0_D .res_1_D .res_2_D .res_3_D .res_4_D .res_5_D .res_6_D .res_7_D
  | .e => pick8 b .res_0_E .res_1_E .res_2_E .res_3_E .res_4_E .res_5_E .res_6_E .res_7_E
  | .h => pick8 b .res_0_H .res_1_H .res_2_H .res_3_H .res_4_H .res_5_H .res_6_H .res_7_H
  | .l => pick8 b .res_0_L .res_1_L .res_2_L .res_3_L .res_4_L .res_5_L .res_6_L .res_7_L
  | .m => pick8 b .res_0_mHL .res_1_mHL .res_2_mHL .res_3_mHL .res_4_mHL .res_5_mHL .res_6_mHL .res_7_mHL
  | .a => pick8 b .res_0_A .res_1_A .res_2_A .res_3_A .res_4_A .res_5_A .res_6_A .res_7_A

/-- `11 bbb zzz` of the extended table (R73): bit set. -/
def setInstr (b : BitVec 3) (z : R8) : Instr :=
  match z with
  | .b => pick8 b .set_0_B .set_1_B .set_2_B .set_3_B .set_4_B .set_5_B .set_6_B .set_7_B
  | .c => pick8 b .set_0_C .set_1_C .set_2_C .set_3_C .set_4_C .set_5_C .set_6_C .set_7_C
  | .d => pick8 b .set_0_D .set_1_D .set_2_D .set_3_D .set_4_D .set_5_D .set_6_D .set_7_D
  | .e => pick8 b .set_0_E .set_1_E .set_2_E .set_3_E .set_4_E .set_5_E .set_6_E .set_7_E
  | .h => pick8 b .set_0_H .set_1_H .set_2_H .set_3_H .set_4_H .set_5_H .set_6_H .set_7_H
  | .l => pick8 b .set_0_L .set_1_L .set_2_L .set_3_L .set_4_L .set_5_L .set_6_L .set_7_L
  | .m => pick8 b .set_0_mHL .set_1_mHL .set_2_mHL .set_3_mHL .set_4_mHL .set_5_mHL .set_6_mHL .set_7_mHL
  | .a => pick8 b .set_0_A .set_1_A .set_2_A .set_3_A .set_4_A .set_5_A .set_6_A .set_7_A

/-! ## The decoder -/

/-- Quarter `x = 0` of the primary table (R70, R71). -/
def decodeQuarter0 (op : Byte) : Instr :=
  let y := fieldY op
  let p := fieldP op
  let q := fieldQ op
  pick8 (fieldZ op)
    (pick8 y .nop .ld_ma16_SP .stop .jr_r8 (jrccInstr .nz) (jrccInstr .z) (jrccInstr .nc) (jrccInstr .c))
    (if q then addHLInstr (R16.ofIndex p) else ld16Instr (R16.ofIndex p))
    (if q then ldaInstr (MemView.ofIndex p) else staInstr (MemView.ofIndex p))
    (if q then dec16Instr (R16.ofIndex p) else inc16Instr (R16.ofIndex p))
    (incInstr (R8.ofIndex y))
    (decInstr (R8.ofIndex y))
    (ldImmInstr (R8.ofIndex y))
    (pick8 y .rlca .rrca .rla .rra .daa .cpl .scf .ccf)

/-- Quarter `x = 3` of the primary table (R70, R71). The eleven bytes without a meaning decode to the marker that names
them (R74, R76; log 3), never to a neighbour. -/
def decodeQuarter3 (op : Byte) : Instr :=
  let y := fieldY op
  let p := fieldP op
  let q := fieldQ op
  let cc := Cond.ofIndex (fieldCC op)
  pick8 (fieldZ op)
    (pick8 y (retccInstr cc) (retccInstr cc) (retccInstr cc) (retccInstr cc)
      .ldh_ma8_A .add_SP_r8 .ldh_A_ma8 .ld_HL_SPr8)
    (if q then pick4 p .ret .reti .jp_mHL .ld_SP_HL else popInstr (R16S.ofIndex p))
    (pick8 y (jpccInstr cc) (jpccInstr cc) (jpccInstr cc) (jpccInstr cc)
      .ld_mC_A .ld_ma16_A .ld_A_mC .ld_A_ma16)
    (pick8 y .jp_a16 .prefix_CB .unsupported_D3 .unsupported_DB .unsupported_E3 .unsupported_EB .di .ei)
    (pick8 y (callccInstr cc) (callccInstr cc) (callccInstr cc) (callccInstr cc)
      .unsupported_E4 .unsupported_EC .unsupported_F4 .unsupported_FC)
    (if q then pick4 p .call_a16 .unsupported_DD .unsupported_ED .unsupported_FD else pushInstr (R16S.ofIndex p))
    (aluImmInstr (AluOp.ofIndex y))
    (rstInstr y)

/-- `decode_primary` (R71): every opcode byte to its instruction. -/
def decodePrimary (op : Byte) : Instr :=
  pick4 (fieldX op)
    (decodeQuarter0 op)
    (ldInstr (R8.ofIndex (fieldY op)) (R8.ofIndex (fieldZ op)))
    (aluInstr (AluOp.ofIndex (fieldY op)) (R8.ofIndex (fieldZ op)))
    (decodeQuarter3 op)

/-- `decode_extended` (R73), to the fields: total, every extended opcode denotes an instruction (R72). -/
def extFields (e : Byte) : ExtOp :=
  let y := fieldY e
  let z := R8.ofIndex (fieldZ e)
  pick4 (fieldX e) (.rot (RotOp.ofIndex y) z) (.bit y z) (.res y z) (.set y z)

/-- The instruction of an extended operation (R73). -/
def ExtOp.toInstr : ExtOp → Instr
  | .rot o z => rotInstr o z
  | .bit b z => bitInstr b z
  | .res b z => resInstr b z
  | .set b z => setInstr b z

/-- `decode_extended` (R72, R73). -/
def decodeExtended (e : Byte) : Instr := (extFields e).toInstr

/-- The escape opcode (R72). -/
def escapeByte : Byte := 0xCB#8

/-- The whole decoder on a stream of bytes (R56, R60, R80): the instruction its first bytes denote and what follows its
opcode bytes; a decoder that meets the escape reads the next byte and uses the extended table. `none` only where the
opcode bytes themselves are missing. -/
def decode : List Byte → Option (Instr × List Byte)
  | [] => none
  | [op] => if op = escapeByte then none else some (decodePrimary op, [])
  | op :: e :: rest => if op = escapeByte then some (decodeExtended e, rest) else some (decodePrimary op, e :: rest)

/-! ## Formats and lengths (R61, R62) -/

/-- The format of an instruction (R61). -/
def Instr.format (i : Instr) : Format :=
  match i.kind with
  | .ldi8 _ | .aluImm _ => .opD8
  | .jr | .jrcc _ => .opR8
  | .ld16 _ | .jp | .jpcc _ | .call | .callcc _ => .opD16
  | .escape | .ext _ => .cbOp
  | .unimpl _ _ f => f
  | .nop | .halt | .ld8 _ _ | .sta _ | .lda _ | .alu _ _ | .inc8 _ | .dec8 _ | .inc16 _ | .dec16 _ | .addHL _
  | .push _ | .pop _ | .ret | .retcc _ | .reti | .rst _ | .unsupported _ => .op

/-- The length of a format in bytes (R61). -/
def Format.length : Format → Nat
  | .op => 1
  | .opD8 => 2
  | .opR8 => 2
  | .opD16 => 3
  | .cbOp => 2

/-- The number of operand bytes of a format, `d8`, `r8`, `d16` or `a16` (R61, R69). -/
def Format.operandBytes : Format → Nat
  | .op => 0
  | .opD8 => 1
  | .opR8 => 1
  | .opD16 => 2
  | .cbOp => 0

/-- The length of an instruction in bytes (R62). -/
def Instr.length (i : Instr) : Nat := i.format.length

/-- The number of operand bytes of an instruction (R61). -/
def Instr.operandBytes (i : Instr) : Nat := i.format.operandBytes

/-! ## The encoder -/

/-- The extended opcode byte (R73). -/
def ExtOp.encode : ExtOp → Byte
  | .rot o z => 0b00#2 ++ o.index ++ z.index
  | .bit b z => 0b01#2 ++ b ++ z.index
  | .res b z => 0b10#2 ++ b ++ z.index
  | .set b z => 0b11#2 ++ b ++ z.index

/-- The primary opcode byte of a decoded form, from the patterns of R70. -/
def Kind.opcode : Kind → Byte
  | .nop => 0x00#8
  | .halt => 0x76#8
  | .ld8 dst src => 0b01#2 ++ dst.index ++ src.index
  | .ldi8 dst => 0b00#2 ++ dst.index ++ 0b110#3
  | .sta v => 0b00#2 ++ v.index ++ 0b0010#4
  | .lda v => 0b00#2 ++ v.index ++ 0b1010#4
  | .alu f z => 0b10#2 ++ f.index ++ z.index
  | .aluImm f => 0b11#2 ++ f.index ++ 0b110#3
  | .inc8 dst => 0b00#2 ++ dst.index ++ 0b100#3
  | .dec8 dst => 0b00#2 ++ dst.index ++ 0b101#3
  | .ld16 r => 0b00#2 ++ r.index ++ 0b0001#4
  | .inc16 r => 0b00#2 ++ r.index ++ 0b0011#4
  | .dec16 r => 0b00#2 ++ r.index ++ 0b1011#4
  | .addHL r => 0b00#2 ++ r.index ++ 0b1001#4
  | .push r => 0b11#2 ++ r.index ++ 0b0101#4
  | .pop r => 0b11#2 ++ r.index ++ 0b0001#4
  | .jp => 0xC3#8
  | .jpcc cc => 0b110#3 ++ cc.index ++ 0b010#3
  | .jr => 0x18#8
  | .jrcc cc => 0b001#3 ++ cc.index ++ 0b000#3
  | .call => 0xCD#8
  | .callcc cc => 0b110#3 ++ cc.index ++ 0b100#3
  | .ret => 0xC9#8
  | .retcc cc => 0b110#3 ++ cc.index ++ 0b000#3
  | .reti => 0xD9#8
  | .rst t => 0b11#2 ++ t ++ 0b111#3
  | .escape => escapeByte
  | .ext _ => escapeByte
  | .unimpl _ op _ => op
  | .unsupported op => op

/-- The opcode bytes of an instruction, in address order (R56): one byte, or the escape and the extended opcode. Its
operand bytes, if any, follow them and are no part of the decoded instruction (R77; log 2). -/
def encode (i : Instr) : List Byte :=
  match i.kind with
  | .ext x => [escapeByte, x.encode]
  | k => [k.opcode]

/-! ## Assembler spelling (R78) -/

/-- The spelling of an 8-bit operand (R78). -/
def R8.text : R8 → String
  | .b => "B" | .c => "C" | .d => "D" | .e => "E" | .h => "H" | .l => "L" | .m => "(HL)" | .a => "A"

/-- The spelling of a 16-bit operand (R78). -/
def R16.text : R16 → String
  | .bc => "BC" | .de => "DE" | .hl => "HL" | .sp => "SP"

/-- The spelling of a member of the stack set (R78). -/
def R16S.text : R16S → String
  | .bc => "BC" | .de => "DE" | .hl => "HL" | .af => "AF"

/-- The spelling of the memory byte at a view (R78). -/
def MemView.text : MemView → String
  | .bc => "(BC)" | .de => "(DE)" | .hli => "(HL+)" | .hld => "(HL-)"

/-- The spelling of a condition (R78). -/
def Cond.text : Cond → String
  | .nz => "NZ" | .z => "Z" | .nc => "NC" | .c => "C"

/-- The spelling of a family and its implied accumulator (R78). -/
def AluOp.text : AluOp → String
  | .add => "ADD A," | .adc => "ADC A," | .sub => "SUB " | .sbc => "SBC A,"
  | .and => "AND " | .xor => "XOR " | .or => "OR " | .cp => "CP "

/-- The spelling of a rotate, shift or swap (R78). -/
def RotOp.text : RotOp → String
  | .rlc => "RLC " | .rrc => "RRC " | .rl => "RL " | .rr => "RR "
  | .sla => "SLA " | .sra => "SRA " | .swap => "SWAP " | .srl => "SRL "

/-- One hexadecimal digit. -/
def hexDigit (v : BitVec 4) : String :=
  match v.toNat with
  | 0 => "0" | 1 => "1" | 2 => "2" | 3 => "3" | 4 => "4" | 5 => "5" | 6 => "6" | 7 => "7"
  | 8 => "8" | 9 => "9" | 10 => "A" | 11 => "B" | 12 => "C" | 13 => "D" | 14 => "E" | _ => "F"

/-- Two hexadecimal digits. -/
def hexByte (v : Byte) : String := hexDigit (v.extractLsb' 4 4) ++ hexDigit (v.extractLsb' 0 4)

/-- One decimal digit below 8. -/
def octDigit (v : BitVec 3) : String := pick8 v "0" "1" "2" "3" "4" "5" "6" "7"

/-- The spelling of an extended instruction (R78). -/
def ExtOp.text : ExtOp → String
  | .rot o z => o.text ++ z.text
  | .bit b z => "BIT " ++ octDigit b ++ "," ++ z.text
  | .res b z => "RES " ++ octDigit b ++ "," ++ z.text
  | .set b z => "SET " ++ octDigit b ++ "," ++ z.text

/-- The spelling of a decoded form, destination first (R78; the mnemonics of R80). -/
def Kind.text : Kind → String
  | .nop => "NOP"
  | .halt => "HALT"
  | .ld8 dst src => "LD " ++ dst.text ++ "," ++ src.text
  | .ldi8 dst => "LD " ++ dst.text ++ ",d8"
  | .sta v => "LD " ++ v.text ++ ",A"
  | .lda v => "LD A," ++ v.text
  | .alu f z => f.text ++ z.text
  | .aluImm f => f.text ++ "d8"
  | .inc8 dst => "INC " ++ dst.text
  | .dec8 dst => "DEC " ++ dst.text
  | .ld16 r => "LD " ++ r.text ++ ",d16"
  | .inc16 r => "INC " ++ r.text
  | .dec16 r => "DEC " ++ r.text
  | .addHL r => "ADD HL," ++ r.text
  | .push r => "PUSH " ++ r.text
  | .pop r => "POP " ++ r.text
  | .jp => "JP a16"
  | .jpcc cc => "JP " ++ cc.text ++ ",a16"
  | .jr => "JR r8"
  | .jrcc cc => "JR " ++ cc.text ++ ",r8"
  | .call => "CALL a16"
  | .callcc cc => "CALL " ++ cc.text ++ ",a16"
  | .ret => "RET"
  | .retcc cc => "RET " ++ cc.text
  | .reti => "RETI"
  | .rst t => "RST " ++ hexByte (0b00#2 ++ t ++ 0b000#3) ++ "H"
  | .escape => "PREFIX CB"
  | .ext x => x.text
  | .unimpl m _ _ => m
  | .unsupported op => "UNSUPPORTED_" ++ hexByte op

/-- The spelling of an instruction (R78, R80). -/
def Instr.text (i : Instr) : String := i.kind.text

/-! ## The table's words -/

/-- The bytes, in address order, of an instruction whose bits are `w` as opcode_table.json numbers them (log 5). A
primary row numbers byte 0 alone; a row of the extended table numbers byte 0, the escape, most significant (R80). -/
def tableBytes (nbits w : Nat) : List Byte :=
  if 8 < nbits ∧ w / 256 % 256 = 0xCB then [BitVec.ofNat 8 (w / 256), BitVec.ofNat 8 w, 0#8]
  else [BitVec.ofNat 8 w, BitVec.ofNat 8 (w / 256), BitVec.ofNat 8 (w / 65536)]

/-- The instruction the decoder reads from a row's word: a row of one byte is read by the primary decoder, whose answer
to 0xCB is the escape itself (R72, R80), a longer one by the whole decoder. -/
def decodeTableWord (nbits w : Nat) : Option Instr :=
  if nbits = 0 ∨ 24 < nbits then none
  else if nbits ≤ 8 then some (decodePrimary (BitVec.ofNat 8 w))
  else (decode (tableBytes nbits w)).map Prod.fst

end Sys2Proof
end

