-- ==== Sys2Proof/Config.lean ====
section
/-! DEFINITION. The parameters the spec leaves open (00_scope.md R5), as the fields of one structure that a claim can
name or quantify over. Their default values are `Machine.defaultConfig` in Machine/Defaults.lean. -/

namespace Sys2Proof

/-- One entry of the table `COST` (70_reset_and_hazards.md R310): a number, a pair (taken, not taken), or empty for a
byte whose step fails before accounting. -/
inductive CostEntry where
  | flat (n : Nat)
  | branch (taken notTaken : Nat)
  | empty
deriving DecidableEq, Repr

/-- The configuration of one machine, fixed for a run and not state (00_scope.md R5, 10_state.md R28).
Field by field: `BOOT_IMAGE`, `BOOT_BASE`, `MEM_FILL`, `RESET_REG` (the value of each of the eight cells), `RESET_SP`,
`RESET_PC`, `RESET_FLAGS` (Z, N, H, C), `CYCLES_PER_SCANLINE`, `SCANLINE_ADDR`, `SCANLINE_MAX`, `BLANKING_LINE`,
`COST`. -/
structure Config where
  bootImage         : List Byte
  bootBase          : Word
  memFill           : Byte
  resetReg          : Byte
  resetSP           : Word
  resetPC           : Word
  resetZ            : Bool
  resetN            : Bool
  resetH            : Bool
  resetC            : Bool
  cyclesPerScanline : Nat
  scanlineAddr      : Word
  scanlineMax       : Nat
  blankingLine      : Nat
  cost              : Byte → CostEntry

end Sys2Proof
end

