-- ==== Sys2Proof/Machine/Defaults.lean ====
section
/-! DEFINITION. The default values of the parameters the spec leaves open (00_scope.md R5): the defaults of decisions D21,
D22 and D24, no statement of the source (log 6 to 9). -/

namespace Sys2Proof.Machine

/-- Row 0x0x of the default `COST` (R310). -/
def costRow0 : List CostEntry :=
  [.flat 4, .flat 12, .flat 8, .flat 8, .flat 4, .flat 4, .flat 8, .empty,
   .empty, .flat 8, .flat 8, .flat 8, .flat 4, .flat 4, .flat 8, .empty]

/-- Row 0x1x of the default `COST` (R310). -/
def costRow1 : List CostEntry :=
  [.empty, .flat 12, .flat 8, .flat 8, .flat 4, .flat 4, .flat 8, .empty,
   .flat 12, .flat 8, .flat 8, .flat 8, .flat 4, .flat 4, .flat 8, .empty]

/-- Row 0x2x of the default `COST` (R310). -/
def costRow2 : List CostEntry :=
  [.branch 12 8, .flat 12, .flat 8, .flat 8, .flat 4, .flat 4, .flat 8, .empty,
   .branch 12 8, .flat 8, .flat 8, .flat 8, .flat 4, .flat 4, .flat 8, .empty]

/-- Row 0x3x of the default `COST` (R310). -/
def costRow3 : List CostEntry :=
  [.branch 12 8, .flat 12, .flat 8, .flat 8, .flat 12, .flat 12, .flat 12, .empty,
   .branch 12 8, .flat 8, .flat 8, .flat 8, .flat 4, .flat 4, .flat 8, .empty]

/-- Row 0x4x of the default `COST` (R310). -/
def costRow4 : List CostEntry :=
  [.flat 4, .flat 4, .flat 4, .flat 4, .flat 4, .flat 4, .flat 8, .flat 4,
   .flat 4, .flat 4, .flat 4, .flat 4, .flat 4, .flat 4, .flat 8, .flat 4]

/-- Row 0x5x of the default `COST` (R310). -/
def costRow5 : List CostEntry :=
  [.flat 4, .flat 4, .flat 4, .flat 4, .flat 4, .flat 4, .flat 8, .flat 4,
   .flat 4, .flat 4, .flat 4, .flat 4, .flat 4, .flat 4, .flat 8, .flat 4]

/-- Row 0x6x of the default `COST` (R310). -/
def costRow6 : List CostEntry :=
  [.flat 4, .flat 4, .flat 4, .flat 4, .flat 4, .flat 4, .flat 8, .flat 4,
   .flat 4, .flat 4, .flat 4, .flat 4, .flat 4, .flat 4, .flat 8, .flat 4]

/-- Row 0x7x of the default `COST` (R310). -/
def costRow7 : List CostEntry :=
  [.flat 8, .flat 8, .flat 8, .flat 8, .flat 8, .flat 8, .flat 4, .flat 8,
   .flat 4, .flat 4, .flat 4, .flat 4, .flat 4, .flat 4, .flat 8, .flat 4]

/-- Row 0x8x of the default `COST` (R310). -/
def costRow8 : List CostEntry :=
  [.flat 4, .flat 4, .flat 4, .flat 4, .flat 4, .flat 4, .flat 8, .flat 4,
   .flat 4, .flat 4, .flat 4, .flat 4, .flat 4, .flat 4, .flat 8, .flat 4]

/-- Row 0x9x of the default `COST` (R310). -/
def costRow9 : List CostEntry :=
  [.flat 4, .flat 4, .flat 4, .flat 4, .flat 4, .flat 4, .flat 8, .flat 4,
   .flat 4, .flat 4, .flat 4, .flat 4, .flat 4, .flat 4, .flat 8, .flat 4]

/-- Row 0xAx of the default `COST` (R310). -/
def costRowA : List CostEntry :=
  [.flat 4, .flat 4, .flat 4, .flat 4, .flat 4, .flat 4, .flat 8, .flat 4,
   .flat 4, .flat 4, .flat 4, .flat 4, .flat 4, .flat 4, .flat 8, .flat 4]

/-- Row 0xBx of the default `COST` (R310). -/
def costRowB : List CostEntry :=
  [.flat 4, .flat 4, .flat 4, .flat 4, .flat 4, .flat 4, .flat 8, .flat 4,
   .flat 4, .flat 4, .flat 4, .flat 4, .flat 4, .flat 4, .flat 8, .flat 4]

/-- Row 0xCx of the default `COST` (R310). -/
def costRowC : List CostEntry :=
  [.branch 20 8, .flat 12, .branch 16 12, .flat 16, .branch 24 12, .flat 16, .flat 8, .flat 16,
   .branch 20 8, .flat 16, .branch 16 12, .flat 8, .branch 24 12, .flat 24, .flat 8, .flat 16]

/-- Row 0xDx of the default `COST` (R310). -/
def costRowD : List CostEntry :=
  [.branch 20 8, .flat 12, .branch 16 12, .empty, .branch 24 12, .flat 16, .flat 8, .flat 16,
   .branch 20 8, .flat 16, .branch 16 12, .empty, .branch 24 12, .empty, .flat 8, .flat 16]

/-- Row 0xEx of the default `COST` (R310). -/
def costRowE : List CostEntry :=
  [.empty, .flat 12, .empty, .empty, .empty, .flat 16, .flat 8, .flat 16,
   .empty, .empty, .empty, .empty, .empty, .empty, .flat 8, .flat 16]

/-- Row 0xFx of the default `COST` (R310). -/
def costRowF : List CostEntry :=
  [.empty, .flat 12, .empty, .empty, .empty, .flat 16, .flat 8, .flat 16,
   .empty, .empty, .empty, .empty, .empty, .empty, .flat 8, .flat 16]

/-- The default `COST` (70_reset_and_hazards.md R310; decision D24). -/
def defaultCostTable : List CostEntry :=
  costRow0 ++ costRow1 ++ costRow2 ++ costRow3 ++ costRow4 ++ costRow5 ++ costRow6 ++ costRow7
    ++ costRow8 ++ costRow9 ++ costRowA ++ costRowB ++ costRowC ++ costRowD ++ costRowE ++ costRowF

/-- `COST[op]` of the default table (R310). -/
def defaultCost (op : Byte) : CostEntry := defaultCostTable.getD op.toNat .empty

/-- The defaults of 00_scope.md R5. `BOOT_IMAGE` has none ("supplied by the host"): here it is the empty image, which
R301 accepts (log 8). -/
def defaultConfig : Config where
  bootImage         := []
  bootBase          := 0x0000#16
  memFill           := 0x00#8
  resetReg          := 0x00#8
  resetSP           := 0x0000#16
  resetPC           := 0x0000#16
  resetZ            := false
  resetN            := false
  resetH            := false
  resetC            := false
  cyclesPerScanline := 456
  scanlineAddr      := 0xFF44#16
  scanlineMax       := 153
  blankingLine      := 144
  cost              := defaultCost

end Sys2Proof.Machine
end

