-- ==== Sys2Proof/Machine/Memory.lean ====
section
/-! DEFINITION. Memory as plain data: the list of the bytes that differ from what an unlisted address reads as, in
rising order of address (20_memory.md R40 to R43, 70_reset_and_hazards.md R300, R301). -/

namespace Sys2Proof.Machine

/-- The contents of the 65536 bytes (20_memory.md R40), as (address, byte) pairs. -/
abbrev Memory := List Host.Cell

/-- The number of bytes (20_memory.md R40). -/
def memSize : Nat := 65536

/-- What an address with no entry reads as: `MEM_FILL`, 0x00 (10_state.md R30; DESIGN CHOICE of the spec, D21; log 7). -/
def memUnlisted : Byte := 0x00#8

/-- Read one byte: the entry of the address, else `memUnlisted`. Never fails (20_memory.md R42). -/
def memRead : Memory → Nat → Byte
  | [], _ => memUnlisted
  | (k, v) :: m, a => if a = k then v else memRead m a

/-- The memory with no entry for `a`. -/
def memErase (m : Memory) (a : Nat) : Memory := m.filter (fun c => c.1 != a)

/-- Put an entry for `a` in its place in rising order. -/
def memInsert : Memory → Nat → Byte → Memory
  | [], a, v => [(a, v)]
  | (k, w) :: m, a, v => if a < k then (a, v) :: (k, w) :: m else (k, w) :: memInsert m a v

/-- Write one byte and no other; never fails (20_memory.md R43). The result keeps the canonical form: writing
`memUnlisted` removes the entry. -/
def memWrite (m : Memory) (a : Nat) (v : Byte) : Memory :=
  if v = memUnlisted then memErase m a else memInsert (memErase m a) a v

/-- Every entry is at an address from `lo` on and below `memSize`, addresses rise strictly, and no entry is equal to
what an unlisted address reads as. -/
def memWfFrom : Nat → Memory → Bool
  | _, [] => true
  | lo, (k, v) :: m => decide (lo ≤ k) && decide (k < memSize) && decide (v ≠ memUnlisted) && memWfFrom (k + 1) m

/-- The canonical form of memory. -/
def Memory.wf (m : Memory) : Bool := memWfFrom 0 m

/-- All memory holding one value (70_reset_and_hazards.md R300, the first loop). -/
def memFilled (v : Byte) : Memory :=
  if v = memUnlisted then [] else (List.range memSize).map (fun a => (a, v))

/-- Copy an image to `a` upward; bytes that would lie beyond the last address are dropped silently
(70_reset_and_hazards.md R301). -/
def memLoad : Memory → Nat → List Byte → Memory
  | m, _, [] => m
  | m, a, b :: bs => if a < memSize then memLoad (memWrite m a b) (a + 1) bs else m

end Sys2Proof.Machine
end

