-- ==== Sys2Proof/Machine/State.lean ====
section
/-! DEFINITION. The state of the machine (10_state.md), the three typed failures (60_exceptions.md R270 to R273), and
the state after reset (10_state.md R30, 70_reset_and_hazards.md R300). -/

namespace Sys2Proof.Machine

/-- The four independent flag booleans, with no bit position in any byte (10_state.md R18). -/
structure Flags where
  z : Bool
  n : Bool
  h : Bool
  c : Bool
deriving DecidableEq, Repr

/-- The names of the eight 8-bit cells (10_state.md R10). -/
inductive Cell where
  | a | f | b | c | d | e | h | l
deriving DecidableEq, Repr

/-- The whole state (10_state.md R27): eight cells (R10), SP (R14), `pc` (R22), the flags (R18), the cycle counter
(R25) and memory (20_memory.md R40). -/
structure State where
  a     : Byte
  f     : Byte
  b     : Byte
  c     : Byte
  d     : Byte
  e     : Byte
  h     : Byte
  l     : Byte
  sp    : Word
  pc    : Word
  flags : Flags
  cyc   : Nat
  mem   : Memory
deriving DecidableEq, Repr

/-- Why a step stops: the three typed failures of 60_exceptions.md section 1. Each is the spec's own outcome of the
step, and ends the run (R276). -/
inductive Fault where
  /-- `UnsupportedOpcode(op)` (R270): raised for the eleven opcode bytes with no architectural meaning, by the meanings
  of the markers `unsupported_..`. Safe: the spec names this outcome. -/
  | unsupportedOpcode (op : Byte)
  /-- `UnimplementedInstruction(m)` (R271): raised by the meanings of the 22 instructions of 46_unimplemented.md R231
  to R252, `m` the mnemonic. Safe: the spec names this outcome. -/
  | unimplementedInstruction (m : String)
  /-- `AddressOutOfRange(a)` (R272): raised by a 16-bit memory access at 0xFFFF (20_memory.md R45), in fetching a 16-bit
  operand, in a push and in a pop. Safe: the spec names this outcome. -/
  | addressOutOfRange (a : Word)
deriving DecidableEq, Repr

/-- Why a step could be refused. No meaning of this model refuses. -/
inductive Refusal where
  /-- An instruction with no meaning yet, raised by exec's arm alone. Safe: nothing is claimed of such a step. -/
  | notModelled (mnemonic : String)
deriving DecidableEq, Repr

/-- What an execution answers. -/
abbrev Result := Host.Outcome State Fault Refusal

/-- `reset(BOOT_IMAGE)` (70_reset_and_hazards.md R300) under any configuration. -/
def State.resetWith (cfg : Config) : State where
  a     := cfg.resetReg
  f     := cfg.resetReg
  b     := cfg.resetReg
  c     := cfg.resetReg
  d     := cfg.resetReg
  e     := cfg.resetReg
  h     := cfg.resetReg
  l     := cfg.resetReg
  sp    := cfg.resetSP
  pc    := cfg.resetPC
  flags := { z := cfg.resetZ, n := cfg.resetN, h := cfg.resetH, c := cfg.resetC }
  cyc   := 0
  mem   := memLoad (memFilled cfg.memFill) cfg.bootBase.toNat cfg.bootImage

/-- The machine right after construction with the default parameters (10_state.md R30) and the empty boot image
(log 8). -/
def State.reset : State := State.resetWith defaultConfig

end Sys2Proof.Machine
end

