-- ==== Sys2Proof/Machine/Flags.lean ====
section
/-! DEFINITION. Every result and flag computation (42_alu8.md R121 to R131, 43_wide16.md R153, 45_extended.md R203 to
R213), as functions of operand values. The flag constants of logic, 16-bit and extended operations are the spec's
decisions D8, D11, D17 (log 19). -/

namespace Sys2Proof.Machine

/-- What an 8-bit addition or subtraction answers: the result, the carry or borrow of bit 7, and that of bit 3. -/
structure Sum8 where
  r : Byte
  c : Bool
  h : Bool
deriving DecidableEq, Repr

/-- `add8(a, b, cin)` (42_alu8.md R121): half-carry by the same addition of the operands shifted left by 4. -/
def add8 (a b : Byte) (cin : Bool) : Sum8 where
  r := BitVec.ofNat 8 (a.toNat + b.toNat + cin.toNat)
  c := decide (a.toNat + b.toNat + cin.toNat > 255)
  h := decide (a.toNat * 16 % 256 + b.toNat * 16 % 256 + cin.toNat * 16 > 255)

/-- `sub8(a, b)` (42_alu8.md R121): half-borrow by the same subtraction of the operands shifted left by 4. -/
def sub8 (a b : Byte) : Sum8 where
  r := BitVec.ofNat 8 (a.toNat + 256 - b.toNat)
  c := decide (a.toNat < b.toNat)
  h := decide (a.toNat * 16 % 256 < b.toNat * 16 % 256)

/-- The two dependent subtractions of `SBC` (42_alu8.md R125): either borrow sets each outgoing flag. -/
def sbc8 (a b : Byte) (cin : Bool) : Sum8 :=
  let t := sub8 a b
  let u := sub8 t.r (BitVec.ofNat 8 cin.toNat)
  { r := u.r, c := t.c || u.c, h := t.h || u.h }

/-- The result of a family on A, the operand and the incoming carry, and the four flags it writes (42_alu8.md R122 to
R129). -/
def aluResult (f : AluOp) (a v : Byte) (cin : Bool) : Byte × Flags :=
  match f with
  | .add => let x := add8 a v false; (x.r, { z := x.r == 0#8, n := false, h := x.h, c := x.c })
  | .adc => let x := add8 a v cin; (x.r, { z := x.r == 0#8, n := false, h := x.h, c := x.c })
  | .sub => let x := sub8 a v; (x.r, { z := x.r == 0#8, n := true, h := x.h, c := x.c })
  | .sbc => let x := sbc8 a v cin; (x.r, { z := x.r == 0#8, n := true, h := x.h, c := x.c })
  | .and => let r := a &&& v; (r, { z := r == 0#8, n := false, h := true, c := false })
  | .xor => let r := a ^^^ v; (r, { z := r == 0#8, n := false, h := false, c := false })
  | .or => let r := a ||| v; (r, { z := r == 0#8, n := false, h := false, c := false })
  | .cp => let x := sub8 a v; (x.r, { z := x.r == 0#8, n := true, h := x.h, c := x.c })

/-- Whether a family writes its result to A: every one but `CP` (42_alu8.md R129). -/
def aluWritesA (f : AluOp) : Bool :=
  match f with
  | .add | .adc | .sub | .sbc | .and | .xor | .or => true
  | .cp => false

/-- 8-bit increment: the result, and Z, N, H; C keeps its value (42_alu8.md R130). -/
def incResult (v : Byte) (fl : Flags) : Byte × Flags :=
  let x := add8 v 1#8 false
  (x.r, { z := x.r == 0#8, n := false, h := x.h, c := fl.c })

/-- 8-bit decrement: the result, and Z, N, H; C keeps its value (42_alu8.md R131). -/
def decResult (v : Byte) (fl : Flags) : Byte × Flags :=
  let x := sub8 v 1#8
  (x.r, { z := x.r == 0#8, n := true, h := x.h, c := fl.c })

/-- `ADD HL,rr`: the result, and N, H (bit 11), C (bit 15); Z keeps its value (43_wide16.md R153). -/
def addHLResult (a b : Word) (fl : Flags) : Word × Flags :=
  (BitVec.ofNat 16 (a.toNat + b.toNat),
    { z := fl.z, n := false, h := decide (a.toNat % 4096 + b.toNat % 4096 > 4095), c := decide (a.toNat + b.toNat > 65535) })

/-- Bit `i` of a byte, as 0 or 1. -/
def bitNat (v : Byte) (i : Nat) : Nat := (v.getLsbD i).toNat

/-- The result of a rotate, shift or swap on the operand and the incoming carry (45_extended.md R203 to R210). -/
def rotByte (o : RotOp) (v : Byte) (cin : Bool) : Byte :=
  match o with
  | .rlc => BitVec.ofNat 8 (v.toNat * 2 % 256 + bitNat v 7)
  | .rrc => BitVec.ofNat 8 (v.toNat / 2 + 128 * bitNat v 0)
  | .rl => BitVec.ofNat 8 (v.toNat * 2 % 256 + cin.toNat)
  | .rr => BitVec.ofNat 8 (v.toNat / 2 + 128 * cin.toNat)
  | .sla => BitVec.ofNat 8 (v.toNat * 2 % 256)
  | .sra => BitVec.ofNat 8 (v.toNat / 2 + 128 * bitNat v 7)
  | .swap => BitVec.ofNat 8 (v.toNat % 16 * 16 + v.toNat / 16)
  | .srl => BitVec.ofNat 8 (v.toNat / 2)

/-- The carry a rotate, shift or swap leaves: the bit shifted out, or 0 for `SWAP` (45_extended.md R203 to R210). -/
def rotCarry (o : RotOp) (v : Byte) : Bool :=
  match o with
  | .rlc | .rl | .sla => v.getLsbD 7
  | .rrc | .rr | .sra | .srl => v.getLsbD 0
  | .swap => false

/-- The result and the four flags of a rotate, shift or swap (45_extended.md R203 to R210). -/
def rotResult (o : RotOp) (v : Byte) (cin : Bool) : Byte × Flags :=
  let r := rotByte o v cin
  (r, { z := r == 0#8, n := false, h := false, c := rotCarry o v })

/-- The flags `BIT b` leaves: Z the complement of the bit, N, H; C keeps its value (45_extended.md R211). -/
def bitFlags (b : BitVec 3) (v : Byte) (fl : Flags) : Flags :=
  { z := !v.getLsbD b.toNat, n := false, h := true, c := fl.c }

/-- `v` with bit `b` = 0 (45_extended.md R212). -/
def resByte (b : BitVec 3) (v : Byte) : Byte := BitVec.ofNat 8 (v.toNat - 2 ^ b.toNat * bitNat v b.toNat)

/-- `v` with bit `b` = 1 (45_extended.md R213). -/
def setByteBit (b : BitVec 3) (v : Byte) : Byte := BitVec.ofNat 8 (v.toNat + 2 ^ b.toNat * (1 - bitNat v b.toNat))

end Sys2Proof.Machine
end

