-- ==== Sys2Proof/Machine/Bits.lean ====
section
/-! DEFINITION. Bit-field, byte-order and sign-extension helpers (00_scope.md section 5). -/

namespace Sys2Proof.Machine

/-- `v[15:8]`. -/
def hiByte (v : Word) : Byte := v.extractLsb' 8 8

/-- `v[7:0]`. -/
def loByte (v : Word) : Byte := v.extractLsb' 0 8

/-- `{hi, lo}`: concatenation, the first the more significant part. -/
def mkWord (hi lo : Byte) : Word := hi ++ lo

/-- `sext_16`: the byte read as signed two's complement, with the same value modulo 65536 (00_scope.md section 5,
30_encoding.md R69). -/
def sext16 (v : Byte) : Word := v.signExtend 16

end Sys2Proof.Machine
end

