-- ==== Sys2Proof/Machine/Ops.lean ====
section
/-! DEFINITION. The named operations over cells, pair views, memory, the fetch and the stack, and the one operation that
takes a failure. Every meaning is written over these. -/

namespace Sys2Proof.Machine

/-! ## Sequencing and failures -/

/-- Run `k` on the answer of `x`; a failure of `x` ends the whole (00_scope.md section 5, "Control"). -/
def andThen {α β : Type} (x : Host.Outcome α Fault Refusal) (k : α → Host.Outcome β Fault Refusal) :
    Host.Outcome β Fault Refusal :=
  match x with
  | .next v => k v
  | .fault r => .fault r
  | .refused r => .refused r

/-- `raise X(info)`: end the step with a typed failure. This is all that taking an exception is on this machine: no
handler, no vector, no saved `pc`, no change of mode, and none of the step's effects is kept, so the outcome carries no
state (60_exceptions.md R275, R276, R279). There is no return from an exception (R279). -/
def raise {α : Type} (r : Fault) : Host.Outcome α Fault Refusal := .fault r

/-! ## Cells (10_state.md R10) -/

/-- Read a cell. -/
def State.cell (s : State) (x : Cell) : Byte :=
  match x with
  | .a => s.a
  | .f => s.f
  | .b => s.b
  | .c => s.c
  | .d => s.d
  | .e => s.e
  | .h => s.h
  | .l => s.l

/-- Write a cell and no other. -/
def State.setCell (s : State) (x : Cell) (v : Byte) : State :=
  match x with
  | .a => { s with a := v }
  | .f => { s with f := v }
  | .b => { s with b := v }
  | .c => { s with c := v }
  | .d => { s with d := v }
  | .e => { s with e := v }
  | .h => { s with h := v }
  | .l => { s with l := v }

/-! ## The other registers -/

/-- Assign SP (R14). -/
def State.setSP (s : State) (v : Word) : State := { s with sp := v }

/-- Assign `pc` (R22). -/
def State.setPC (s : State) (v : Word) : State := { s with pc := v }

/-- Assign the four flags (R18). -/
def State.setFlags (s : State) (v : Flags) : State := { s with flags := v }

/-- Assign the cycle counter (R25). -/
def State.setCyc (s : State) (v : Nat) : State := { s with cyc := v }

/-- Advance `pc` by `n`, modulo 65536 (R24). -/
def State.advance (s : State) (n : Nat) : State := s.setPC (s.pc + BitVec.ofNat 16 n)

/-! ## Memory access (20_memory.md R42 to R45) -/

/-- `MemRead(addr, 1)` (R42). -/
def State.byteAt (s : State) (addr : Word) : Byte := memRead s.mem addr.toNat

/-- `MemWrite(addr, 1, v)` (R43). -/
def State.setByte (s : State) (addr : Word) (v : Byte) : State := { s with mem := memWrite s.mem addr.toNat v }

/-- `MemRead(addr, 2)`: little-endian (R44); at 0xFFFF it fails and accesses no byte (R45). -/
def State.wordAt (s : State) (addr : Word) : Host.Outcome Word Fault Refusal :=
  if addr = 0xFFFF#16 then raise (.addressOutOfRange addr)
  else .next (mkWord (s.byteAt (addr + 1#16)) (s.byteAt addr))

/-- `MemWrite(addr, 2, v)`: little-endian (R44); at 0xFFFF it fails and accesses no byte (R45). -/
def State.setWord (s : State) (addr : Word) (v : Word) : Result :=
  if addr = 0xFFFF#16 then raise (.addressOutOfRange addr)
  else .next ((s.setByte addr (loByte v)).setByte (addr + 1#16) (hiByte v))

/-! ## Pair views (10_state.md R15 to R17) -/

/-- The closed set of pair views: four plain ones and the two auto-modifying views over HL. -/
inductive PairView where
  | af | bc | de | hl | hli | hld
deriving DecidableEq, Repr

/-- `{hi, lo}` of two cells. -/
def State.pair (s : State) (hi lo : Cell) : Word := mkWord (s.cell hi) (s.cell lo)

/-- `hi <- v[15:8]; lo <- v[7:0]`. -/
def State.setPair (s : State) (hi lo : Cell) (v : Word) : State := (s.setCell hi (hiByte v)).setCell lo (loByte v)

/-- The value of the plain view HL. -/
def State.hl (s : State) : Word := s.pair .h .l

/-- Write the plain view HL. -/
def State.setHL (s : State) (v : Word) : State := s.setPair .h .l v

/-- `ReadPair(p)`: the value and the state after the side effect of HLI (R16) or HLD (R17). -/
def readPair (p : PairView) (s : State) : Word × State :=
  match p with
  | .af => (s.pair .a .f, s)
  | .bc => (s.pair .b .c, s)
  | .de => (s.pair .d .e, s)
  | .hl => (s.hl, s)
  | .hli => (s.hl, s.setHL (s.hl + 1#16))
  | .hld => (s.hl, s.setHL (s.hl + 65535#16))

/-- `WritePair(p, v)` with the side effect of HLI (R16) or HLD (R17). No instruction writes through HLI or HLD. -/
def writePair (p : PairView) (v : Word) (s : State) : State :=
  match p with
  | .af => s.setPair .a .f v
  | .bc => s.setPair .b .c v
  | .de => s.setPair .d .e v
  | .hl => s.setHL v
  | .hli => (s.setHL v).setHL (v + 1#16)
  | .hld => (s.setHL v).setHL (v + 65535#16)

/-! ## Fetch (40_step.md R91, R92) -/

/-- `Fetch8()` (R91): never fails. -/
def fetch8 (s : State) : Byte × State := (s.byteAt s.pc, s.advance 1)

/-- `Fetch16()` (R92): fails if the operand starts at 0xFFFF. -/
def fetch16 (s : State) : Host.Outcome (Word × State) Fault Refusal :=
  andThen (s.wordAt s.pc) fun v => .next (v, s.advance 2)

/-! ## The stack (43_wide16.md R156, R157) -/

/-- `Push16(v)` (R156). -/
def push16 (v : Word) (s : State) : Result := (s.setSP (s.sp + 65534#16)).setWord (s.sp + 65534#16) v

/-- `Pop16()` (R157). -/
def pop16 (s : State) : Host.Outcome (Word × State) Fault Refusal :=
  andThen (s.wordAt s.sp) fun v => .next (v, s.setSP (s.sp + 2#16))

end Sys2Proof.Machine
end

