-- ==== Sys2Proof/Machine/Operands.lean ====
section
/-! DEFINITION. Every operand form: the 3-bit operand index (30_encoding.md R64), the two 2-bit pair indices (R65, R66),
the memory views (R70, `z = 2`) and the branch conditions (10_state.md R20). -/

namespace Sys2Proof.Machine

/-- `R8read(i)` (30_encoding.md R64): a cell, or the memory byte at the plain view HL. -/
def readR8 (i : R8) (s : State) : Byte :=
  match i with
  | .b => s.cell .b
  | .c => s.cell .c
  | .d => s.cell .d
  | .e => s.cell .e
  | .h => s.cell .h
  | .l => s.cell .l
  | .m => s.byteAt s.hl
  | .a => s.cell .a

/-- `R8write(i, v)` (30_encoding.md R64). -/
def writeR8 (i : R8) (v : Byte) (s : State) : State :=
  match i with
  | .b => s.setCell .b v
  | .c => s.setCell .c v
  | .d => s.setCell .d v
  | .e => s.setCell .e v
  | .h => s.setCell .h v
  | .l => s.setCell .l v
  | .m => s.setByte s.hl v
  | .a => s.setCell .a v

/-- `R16read(k)` (30_encoding.md R65). -/
def readR16 (r : R16) (s : State) : Word :=
  match r with
  | .bc => (readPair .bc s).1
  | .de => (readPair .de s).1
  | .hl => (readPair .hl s).1
  | .sp => s.sp

/-- `R16write(k, v)` (30_encoding.md R65). -/
def writeR16 (r : R16) (v : Word) (s : State) : State :=
  match r with
  | .bc => writePair .bc v s
  | .de => writePair .de v s
  | .hl => writePair .hl v s
  | .sp => s.setSP v

/-- The pair view of a member of the stack set (30_encoding.md R66). -/
def stackView (r : R16S) : PairView :=
  match r with
  | .bc => .bc
  | .de => .de
  | .hl => .hl
  | .af => .af

/-- `R16Sread(k)` (30_encoding.md R66): the stack set has plain views only, which have no side effect. -/
def readR16S (r : R16S) (s : State) : Word := (readPair (stackView r) s).1

/-- `R16Swrite(k, v)` (30_encoding.md R66). -/
def writeR16S (r : R16S) (v : Word) (s : State) : State := writePair (stackView r) v s

/-- The pair view of an accumulator load or store (30_encoding.md R70, `z = 2`). -/
def memView (v : MemView) : PairView :=
  match v with
  | .bc => .bc
  | .de => .de
  | .hli => .hli
  | .hld => .hld

/-- `Cond(c)` (10_state.md R20). -/
def condHolds (cc : Cond) (fl : Flags) : Bool :=
  match cc with
  | .nz => !fl.z
  | .z => fl.z
  | .nc => !fl.c
  | .c => fl.c

end Sys2Proof.Machine
end

