-- ==== Sys2Proof/Machine/Alu8.lean ====
section
/-! DEFINITION. 8-bit arithmetic and logic (42_alu8.md). None can fail. -/

namespace Sys2Proof.Machine

/-- Apply a family to A and an operand value: A (but for `CP`) and all four flags (R122 to R129). -/
def aluApply (f : AluOp) (v : Byte) (s : State) : State :=
  let x := aluResult f (s.cell .a) v s.flags.c
  (if aluWritesA f then s.setCell .a x.1 else s).setFlags x.2

/-- The cell and `(HL)` forms (R120). -/
def aluOperand (f : AluOp) (z : R8) (s : State) : Result := .next (aluApply f (readR8 z s) s)

/-- The immediate form (R120). -/
def aluImmediate (f : AluOp) (s : State) : Result := .next (aluApply f (fetch8 s).1 (fetch8 s).2)

/-- 8-bit increment (R130). -/
def increment8 (i : R8) (s : State) : Result :=
  let x := incResult (readR8 i s) s.flags
  .next ((writeR8 i x.1 s).setFlags x.2)

/-- 8-bit decrement (R131). -/
def decrement8 (i : R8) (s : State) : Result :=
  let x := decResult (readR8 i s) s.flags
  .next ((writeR8 i x.1 s).setFlags x.2)

/-! ## The eight families on an indexed operand -/

/-- 0x80 `ADD A,B` (R122). -/
def execAdd_A_B (s : State) : Result := aluOperand .add .b s

/-- 0x81 `ADD A,C` (R122). -/
def execAdd_A_C (s : State) : Result := aluOperand .add .c s

/-- 0x82 `ADD A,D` (R122). -/
def execAdd_A_D (s : State) : Result := aluOperand .add .d s

/-- 0x83 `ADD A,E` (R122). -/
def execAdd_A_E (s : State) : Result := aluOperand .add .e s

/-- 0x84 `ADD A,H` (R122). -/
def execAdd_A_H (s : State) : Result := aluOperand .add .h s

/-- 0x85 `ADD A,L` (R122). -/
def execAdd_A_L (s : State) : Result := aluOperand .add .l s

/-- 0x86 `ADD A,(HL)` (R122). -/
def execAdd_A_mHL (s : State) : Result := aluOperand .add .m s

/-- 0x87 `ADD A,A` (R122). -/
def execAdd_A_A (s : State) : Result := aluOperand .add .a s

/-- 0x88 `ADC A,B` (R123). -/
def execAdc_A_B (s : State) : Result := aluOperand .adc .b s

/-- 0x89 `ADC A,C` (R123). -/
def execAdc_A_C (s : State) : Result := aluOperand .adc .c s

/-- 0x8A `ADC A,D` (R123). -/
def execAdc_A_D (s : State) : Result := aluOperand .adc .d s

/-- 0x8B `ADC A,E` (R123). -/
def execAdc_A_E (s : State) : Result := aluOperand .adc .e s

/-- 0x8C `ADC A,H` (R123). -/
def execAdc_A_H (s : State) : Result := aluOperand .adc .h s

/-- 0x8D `ADC A,L` (R123). -/
def execAdc_A_L (s : State) : Result := aluOperand .adc .l s

/-- 0x8E `ADC A,(HL)` (R123). -/
def execAdc_A_mHL (s : State) : Result := aluOperand .adc .m s

/-- 0x8F `ADC A,A` (R123). -/
def execAdc_A_A (s : State) : Result := aluOperand .adc .a s

/-- 0x90 `SUB B` (R124). -/
def execSub_B (s : State) : Result := aluOperand .sub .b s

/-- 0x91 `SUB C` (R124). -/
def execSub_C (s : State) : Result := aluOperand .sub .c s

/-- 0x92 `SUB D` (R124). -/
def execSub_D (s : State) : Result := aluOperand .sub .d s

/-- 0x93 `SUB E` (R124). -/
def execSub_E (s : State) : Result := aluOperand .sub .e s

/-- 0x94 `SUB H` (R124). -/
def execSub_H (s : State) : Result := aluOperand .sub .h s

/-- 0x95 `SUB L` (R124). -/
def execSub_L (s : State) : Result := aluOperand .sub .l s

/-- 0x96 `SUB (HL)` (R124). -/
def execSub_mHL (s : State) : Result := aluOperand .sub .m s

/-- 0x97 `SUB A` (R124). -/
def execSub_A (s : State) : Result := aluOperand .sub .a s

/-- 0x98 `SBC A,B` (R125). -/
def execSbc_A_B (s : State) : Result := aluOperand .sbc .b s

/-- 0x99 `SBC A,C` (R125). -/
def execSbc_A_C (s : State) : Result := aluOperand .sbc .c s

/-- 0x9A `SBC A,D` (R125). -/
def execSbc_A_D (s : State) : Result := aluOperand .sbc .d s

/-- 0x9B `SBC A,E` (R125). -/
def execSbc_A_E (s : State) : Result := aluOperand .sbc .e s

/-- 0x9C `SBC A,H` (R125). -/
def execSbc_A_H (s : State) : Result := aluOperand .sbc .h s

/-- 0x9D `SBC A,L` (R125). -/
def execSbc_A_L (s : State) : Result := aluOperand .sbc .l s

/-- 0x9E `SBC A,(HL)` (R125). -/
def execSbc_A_mHL (s : State) : Result := aluOperand .sbc .m s

/-- 0x9F `SBC A,A` (R125). -/
def execSbc_A_A (s : State) : Result := aluOperand .sbc .a s

/-- 0xA0 `AND B` (R126). -/
def execAnd_B (s : State) : Result := aluOperand .and .b s

/-- 0xA1 `AND C` (R126). -/
def execAnd_C (s : State) : Result := aluOperand .and .c s

/-- 0xA2 `AND D` (R126). -/
def execAnd_D (s : State) : Result := aluOperand .and .d s

/-- 0xA3 `AND E` (R126). -/
def execAnd_E (s : State) : Result := aluOperand .and .e s

/-- 0xA4 `AND H` (R126). -/
def execAnd_H (s : State) : Result := aluOperand .and .h s

/-- 0xA5 `AND L` (R126). -/
def execAnd_L (s : State) : Result := aluOperand .and .l s

/-- 0xA6 `AND (HL)` (R126). -/
def execAnd_mHL (s : State) : Result := aluOperand .and .m s

/-- 0xA7 `AND A` (R126). -/
def execAnd_A (s : State) : Result := aluOperand .and .a s

/-- 0xA8 `XOR B` (R127). -/
def execXor_B (s : State) : Result := aluOperand .xor .b s

/-- 0xA9 `XOR C` (R127). -/
def execXor_C (s : State) : Result := aluOperand .xor .c s

/-- 0xAA `XOR D` (R127). -/
def execXor_D (s : State) : Result := aluOperand .xor .d s

/-- 0xAB `XOR E` (R127). -/
def execXor_E (s : State) : Result := aluOperand .xor .e s

/-- 0xAC `XOR H` (R127). -/
def execXor_H (s : State) : Result := aluOperand .xor .h s

/-- 0xAD `XOR L` (R127). -/
def execXor_L (s : State) : Result := aluOperand .xor .l s

/-- 0xAE `XOR (HL)` (R127). -/
def execXor_mHL (s : State) : Result := aluOperand .xor .m s

/-- 0xAF `XOR A` (R127). -/
def execXor_A (s : State) : Result := aluOperand .xor .a s

/-- 0xB0 `OR B` (R128). -/
def execOr_B (s : State) : Result := aluOperand .or .b s

/-- 0xB1 `OR C` (R128). -/
def execOr_C (s : State) : Result := aluOperand .or .c s

/-- 0xB2 `OR D` (R128). -/
def execOr_D (s : State) : Result := aluOperand .or .d s

/-- 0xB3 `OR E` (R128). -/
def execOr_E (s : State) : Result := aluOperand .or .e s

/-- 0xB4 `OR H` (R128). -/
def execOr_H (s : State) : Result := aluOperand .or .h s

/-- 0xB5 `OR L` (R128). -/
def execOr_L (s : State) : Result := aluOperand .or .l s

/-- 0xB6 `OR (HL)` (R128). -/
def execOr_mHL (s : State) : Result := aluOperand .or .m s

/-- 0xB7 `OR A` (R128). -/
def execOr_A (s : State) : Result := aluOperand .or .a s

/-- 0xB8 `CP B` (R129). -/
def execCp_B (s : State) : Result := aluOperand .cp .b s

/-- 0xB9 `CP C` (R129). -/
def execCp_C (s : State) : Result := aluOperand .cp .c s

/-- 0xBA `CP D` (R129). -/
def execCp_D (s : State) : Result := aluOperand .cp .d s

/-- 0xBB `CP E` (R129). -/
def execCp_E (s : State) : Result := aluOperand .cp .e s

/-- 0xBC `CP H` (R129). -/
def execCp_H (s : State) : Result := aluOperand .cp .h s

/-- 0xBD `CP L` (R129). -/
def execCp_L (s : State) : Result := aluOperand .cp .l s

/-- 0xBE `CP (HL)` (R129). -/
def execCp_mHL (s : State) : Result := aluOperand .cp .m s

/-- 0xBF `CP A` (R129). -/
def execCp_A (s : State) : Result := aluOperand .cp .a s

/-! ## The eight families on an immediate -/

/-- 0xC6 `ADD A,d8` (R122). -/
def execAdd_A_d8 (s : State) : Result := aluImmediate .add s

/-- 0xCE `ADC A,d8` (R123). -/
def execAdc_A_d8 (s : State) : Result := aluImmediate .adc s

/-- 0xD6 `SUB d8` (R124). -/
def execSub_d8 (s : State) : Result := aluImmediate .sub s

/-- 0xDE `SBC A,d8` (R125). -/
def execSbc_A_d8 (s : State) : Result := aluImmediate .sbc s

/-- 0xE6 `AND d8` (R126). -/
def execAnd_d8 (s : State) : Result := aluImmediate .and s

/-- 0xEE `XOR d8` (R127). -/
def execXor_d8 (s : State) : Result := aluImmediate .xor s

/-- 0xF6 `OR d8` (R128). -/
def execOr_d8 (s : State) : Result := aluImmediate .or s

/-- 0xFE `CP d8` (R129). -/
def execCp_d8 (s : State) : Result := aluImmediate .cp s

/-! ## Increment and decrement -/

/-- 0x04 `INC B` (R130). -/
def execInc_B (s : State) : Result := increment8 .b s

/-- 0x0C `INC C` (R130). -/
def execInc_C (s : State) : Result := increment8 .c s

/-- 0x14 `INC D` (R130). -/
def execInc_D (s : State) : Result := increment8 .d s

/-- 0x1C `INC E` (R130). -/
def execInc_E (s : State) : Result := increment8 .e s

/-- 0x24 `INC H` (R130). -/
def execInc_H (s : State) : Result := increment8 .h s

/-- 0x2C `INC L` (R130). -/
def execInc_L (s : State) : Result := increment8 .l s

/-- 0x34 `INC (HL)` (R130). -/
def execInc_mHL (s : State) : Result := increment8 .m s

/-- 0x3C `INC A` (R130). -/
def execInc_A (s : State) : Result := increment8 .a s

/-- 0x05 `DEC B` (R131). -/
def execDec_B (s : State) : Result := decrement8 .b s

/-- 0x0D `DEC C` (R131). -/
def execDec_C (s : State) : Result := decrement8 .c s

/-- 0x15 `DEC D` (R131). -/
def execDec_D (s : State) : Result := decrement8 .d s

/-- 0x1D `DEC E` (R131). -/
def execDec_E (s : State) : Result := decrement8 .e s

/-- 0x25 `DEC H` (R131). -/
def execDec_H (s : State) : Result := decrement8 .h s

/-- 0x2D `DEC L` (R131). -/
def execDec_L (s : State) : Result := decrement8 .l s

/-- 0x35 `DEC (HL)` (R131). -/
def execDec_mHL (s : State) : Result := decrement8 .m s

/-- 0x3D `DEC A` (R131). -/
def execDec_A (s : State) : Result := decrement8 .a s

end Sys2Proof.Machine
end

