-- ==== Sys2Proof/Machine/Control.lean ====
section
/-! DEFINITION. No-op, halt and control transfer (44_control.md). No instruction of this file writes a flag (R177). In
every meaning `pc` already addresses the byte after the opcode (40_step.md R90). -/

namespace Sys2Proof.Machine

/-- `pc <- Fetch16()` (R172). -/
def jumpAbsolute (s : State) : Result := andThen (fetch16 s) fun x => .next (x.2.setPC x.1)

/-- `d <- Fetch8(); pc <- (pc + sext_16(d)) mod 65536` (R174). -/
def jumpRelative (s : State) : Result := .next ((fetch8 s).2.setPC ((fetch8 s).2.pc + sext16 (fetch8 s).1))

/-- The call of R178: push `pc + 2` from the `pc` that still addresses the operand, then read the target there. -/
def callAbsolute (s : State) : Result :=
  andThen (push16 (s.pc + 2#16) s) fun t => andThen (t.wordAt t.pc) fun target => .next (t.setPC target)

/-- `pc <- Pop16()` (R180). -/
def popPC (s : State) : Result := andThen (pop16 s) fun x => .next (x.2.setPC x.1)

/-- A conditional instruction: its effect if the condition holds, else the skip of its `n` operand bytes, which are not
read (R176). -/
def ifTaken (cc : Cond) (effect : State → Result) (n : Nat) (s : State) : Result :=
  if condHolds cc s.flags then effect s else .next (s.advance n)

/-- `Push16(pc); pc <- 8 * t` (R184). -/
def restart (t : BitVec 3) (s : State) : Result :=
  andThen (push16 s.pc s) fun u => .next (u.setPC (BitVec.ofNat 16 (8 * t.toNat)))

/-- 0x00 `NOP` (R170). -/
def execNop (s : State) : Result := .next s

/-- 0x76 `HALT` (R171). -/
def execHalt (s : State) : Result := .next s

/-- 0xC3 `JP a16` (R172). -/
def execJp_a16 (s : State) : Result := jumpAbsolute s

/-- 0x18 `JR r8` (R174). -/
def execJr_r8 (s : State) : Result := jumpRelative s

/-- 0xCD `CALL a16` (R178). -/
def execCall_a16 (s : State) : Result := callAbsolute s

/-- 0xC9 `RET` (R180). -/
def execRet (s : State) : Result := popPC s

/-- 0xD9 `RETI` (R182). -/
def execReti (s : State) : Result := popPC s

/-- 0xC7 `RST 00H` (R184). -/
def execRst_00H (s : State) : Result := restart 0#3 s

/-- 0xCF `RST 08H` (R184). -/
def execRst_08H (s : State) : Result := restart 1#3 s

/-- 0xD7 `RST 10H` (R184). -/
def execRst_10H (s : State) : Result := restart 2#3 s

/-- 0xDF `RST 18H` (R184). -/
def execRst_18H (s : State) : Result := restart 3#3 s

/-- 0xE7 `RST 20H` (R184). -/
def execRst_20H (s : State) : Result := restart 4#3 s

/-- 0xEF `RST 28H` (R184). -/
def execRst_28H (s : State) : Result := restart 5#3 s

/-- 0xF7 `RST 30H` (R184). -/
def execRst_30H (s : State) : Result := restart 6#3 s

/-- 0xFF `RST 38H` (R184). -/
def execRst_38H (s : State) : Result := restart 7#3 s

/-- 0xC2 `JP NZ,a16` (R173). -/
def execJp_NZ_a16 (s : State) : Result := ifTaken .nz jumpAbsolute 2 s

/-- 0xCA `JP Z,a16` (R173). -/
def execJp_Z_a16 (s : State) : Result := ifTaken .z jumpAbsolute 2 s

/-- 0xD2 `JP NC,a16` (R173). -/
def execJp_NC_a16 (s : State) : Result := ifTaken .nc jumpAbsolute 2 s

/-- 0xDA `JP C,a16` (R173). -/
def execJp_C_a16 (s : State) : Result := ifTaken .c jumpAbsolute 2 s

/-- 0x20 `JR NZ,r8` (R175). -/
def execJr_NZ_r8 (s : State) : Result := ifTaken .nz jumpRelative 1 s

/-- 0x28 `JR Z,r8` (R175). -/
def execJr_Z_r8 (s : State) : Result := ifTaken .z jumpRelative 1 s

/-- 0x30 `JR NC,r8` (R175). -/
def execJr_NC_r8 (s : State) : Result := ifTaken .nc jumpRelative 1 s

/-- 0x38 `JR C,r8` (R175). -/
def execJr_C_r8 (s : State) : Result := ifTaken .c jumpRelative 1 s

/-- 0xC4 `CALL NZ,a16` (R179). -/
def execCall_NZ_a16 (s : State) : Result := ifTaken .nz callAbsolute 2 s

/-- 0xCC `CALL Z,a16` (R179). -/
def execCall_Z_a16 (s : State) : Result := ifTaken .z callAbsolute 2 s

/-- 0xD4 `CALL NC,a16` (R179). -/
def execCall_NC_a16 (s : State) : Result := ifTaken .nc callAbsolute 2 s

/-- 0xDC `CALL C,a16` (R179). -/
def execCall_C_a16 (s : State) : Result := ifTaken .c callAbsolute 2 s

/-- 0xC0 `RET NZ` (R181). -/
def execRet_NZ (s : State) : Result := ifTaken .nz popPC 0 s

/-- 0xC8 `RET Z` (R181). -/
def execRet_Z (s : State) : Result := ifTaken .z popPC 0 s

/-- 0xD0 `RET NC` (R181). -/
def execRet_NC (s : State) : Result := ifTaken .nc popPC 0 s

/-- 0xD8 `RET C` (R181). -/
def execRet_C (s : State) : Result := ifTaken .c popPC 0 s

end Sys2Proof.Machine
end

