-- ==== Sys2Proof/Machine/Extended.lean ====
section
/-! DEFINITION. The extended table (45_extended.md): rotates, shifts, swap, bit test, reset and set, and the escape that
reaches them. In the meaning of an extended instruction `pc` addresses the byte after its two opcode bytes; in the
meaning of the escape it addresses the extended opcode byte (R200). -/

namespace Sys2Proof.Machine

/-- A rotate, shift or swap of an operand, read, modified and written (R202 to R210). -/
def rotateOperand (o : RotOp) (z : R8) (s : State) : Result :=
  let x := rotResult o (readR8 z s) s.flags.c
  .next ((writeR8 z x.1 s).setFlags x.2)

/-- `BIT b,z` (R211): the operand is not written. -/
def testBit (b : BitVec 3) (z : R8) (s : State) : Result := .next (s.setFlags (bitFlags b (readR8 z s) s.flags))

/-- `RES b,z` (R212): no flag. -/
def resetBit (b : BitVec 3) (z : R8) (s : State) : Result := .next (writeR8 z (resByte b (readR8 z s)) s)

/-- `SET b,z` (R213): no flag. -/
def setBit (b : BitVec 3) (z : R8) (s : State) : Result := .next (writeR8 z (setByteBit b (readR8 z s)) s)

/-- 0xCB 0x00 `RLC B` (R203). -/
def execRlc_B (s : State) : Result := rotateOperand .rlc .b s

/-- 0xCB 0x01 `RLC C` (R203). -/
def execRlc_C (s : State) : Result := rotateOperand .rlc .c s

/-- 0xCB 0x02 `RLC D` (R203). -/
def execRlc_D (s : State) : Result := rotateOperand .rlc .d s

/-- 0xCB 0x03 `RLC E` (R203). -/
def execRlc_E (s : State) : Result := rotateOperand .rlc .e s

/-- 0xCB 0x04 `RLC H` (R203). -/
def execRlc_H (s : State) : Result := rotateOperand .rlc .h s

/-- 0xCB 0x05 `RLC L` (R203). -/
def execRlc_L (s : State) : Result := rotateOperand .rlc .l s

/-- 0xCB 0x06 `RLC (HL)` (R203). -/
def execRlc_mHL (s : State) : Result := rotateOperand .rlc .m s

/-- 0xCB 0x07 `RLC A` (R203). -/
def execRlc_A (s : State) : Result := rotateOperand .rlc .a s

/-- 0xCB 0x08 `RRC B` (R204). -/
def execRrc_B (s : State) : Result := rotateOperand .rrc .b s

/-- 0xCB 0x09 `RRC C` (R204). -/
def execRrc_C (s : State) : Result := rotateOperand .rrc .c s

/-- 0xCB 0x0A `RRC D` (R204). -/
def execRrc_D (s : State) : Result := rotateOperand .rrc .d s

/-- 0xCB 0x0B `RRC E` (R204). -/
def execRrc_E (s : State) : Result := rotateOperand .rrc .e s

/-- 0xCB 0x0C `RRC H` (R204). -/
def execRrc_H (s : State) : Result := rotateOperand .rrc .h s

/-- 0xCB 0x0D `RRC L` (R204). -/
def execRrc_L (s : State) : Result := rotateOperand .rrc .l s

/-- 0xCB 0x0E `RRC (HL)` (R204). -/
def execRrc_mHL (s : State) : Result := rotateOperand .rrc .m s

/-- 0xCB 0x0F `RRC A` (R204). -/
def execRrc_A (s : State) : Result := rotateOperand .rrc .a s

/-- 0xCB 0x10 `RL B` (R205). -/
def execRl_B (s : State) : Result := rotateOperand .rl .b s

/-- 0xCB 0x11 `RL C` (R205). -/
def execRl_C (s : State) : Result := rotateOperand .rl .c s

/-- 0xCB 0x12 `RL D` (R205). -/
def execRl_D (s : State) : Result := rotateOperand .rl .d s

/-- 0xCB 0x13 `RL E` (R205). -/
def execRl_E (s : State) : Result := rotateOperand .rl .e s

/-- 0xCB 0x14 `RL H` (R205). -/
def execRl_H (s : State) : Result := rotateOperand .rl .h s

/-- 0xCB 0x15 `RL L` (R205). -/
def execRl_L (s : State) : Result := rotateOperand .rl .l s

/-- 0xCB 0x16 `RL (HL)` (R205). -/
def execRl_mHL (s : State) : Result := rotateOperand .rl .m s

/-- 0xCB 0x17 `RL A` (R205). -/
def execRl_A (s : State) : Result := rotateOperand .rl .a s

/-- 0xCB 0x18 `RR B` (R206). -/
def execRr_B (s : State) : Result := rotateOperand .rr .b s

/-- 0xCB 0x19 `RR C` (R206). -/
def execRr_C (s : State) : Result := rotateOperand .rr .c s

/-- 0xCB 0x1A `RR D` (R206). -/
def execRr_D (s : State) : Result := rotateOperand .rr .d s

/-- 0xCB 0x1B `RR E` (R206). -/
def execRr_E (s : State) : Result := rotateOperand .rr .e s

/-- 0xCB 0x1C `RR H` (R206). -/
def execRr_H (s : State) : Result := rotateOperand .rr .h s

/-- 0xCB 0x1D `RR L` (R206). -/
def execRr_L (s : State) : Result := rotateOperand .rr .l s

/-- 0xCB 0x1E `RR (HL)` (R206). -/
def execRr_mHL (s : State) : Result := rotateOperand .rr .m s

/-- 0xCB 0x1F `RR A` (R206). -/
def execRr_A (s : State) : Result := rotateOperand .rr .a s

/-- 0xCB 0x20 `SLA B` (R207). -/
def execSla_B (s : State) : Result := rotateOperand .sla .b s

/-- 0xCB 0x21 `SLA C` (R207). -/
def execSla_C (s : State) : Result := rotateOperand .sla .c s

/-- 0xCB 0x22 `SLA D` (R207). -/
def execSla_D (s : State) : Result := rotateOperand .sla .d s

/-- 0xCB 0x23 `SLA E` (R207). -/
def execSla_E (s : State) : Result := rotateOperand .sla .e s

/-- 0xCB 0x24 `SLA H` (R207). -/
def execSla_H (s : State) : Result := rotateOperand .sla .h s

/-- 0xCB 0x25 `SLA L` (R207). -/
def execSla_L (s : State) : Result := rotateOperand .sla .l s

/-- 0xCB 0x26 `SLA (HL)` (R207). -/
def execSla_mHL (s : State) : Result := rotateOperand .sla .m s

/-- 0xCB 0x27 `SLA A` (R207). -/
def execSla_A (s : State) : Result := rotateOperand .sla .a s

/-- 0xCB 0x28 `SRA B` (R208). -/
def execSra_B (s : State) : Result := rotateOperand .sra .b s

/-- 0xCB 0x29 `SRA C` (R208). -/
def execSra_C (s : State) : Result := rotateOperand .sra .c s

/-- 0xCB 0x2A `SRA D` (R208). -/
def execSra_D (s : State) : Result := rotateOperand .sra .d s

/-- 0xCB 0x2B `SRA E` (R208). -/
def execSra_E (s : State) : Result := rotateOperand .sra .e s

/-- 0xCB 0x2C `SRA H` (R208). -/
def execSra_H (s : State) : Result := rotateOperand .sra .h s

/-- 0xCB 0x2D `SRA L` (R208). -/
def execSra_L (s : State) : Result := rotateOperand .sra .l s

/-- 0xCB 0x2E `SRA (HL)` (R208). -/
def execSra_mHL (s : State) : Result := rotateOperand .sra .m s

/-- 0xCB 0x2F `SRA A` (R208). -/
def execSra_A (s : State) : Result := rotateOperand .sra .a s

/-- 0xCB 0x30 `SWAP B` (R209). -/
def execSwap_B (s : State) : Result := rotateOperand .swap .b s

/-- 0xCB 0x31 `SWAP C` (R209). -/
def execSwap_C (s : State) : Result := rotateOperand .swap .c s

/-- 0xCB 0x32 `SWAP D` (R209). -/
def execSwap_D (s : State) : Result := rotateOperand .swap .d s

/-- 0xCB 0x33 `SWAP E` (R209). -/
def execSwap_E (s : State) : Result := rotateOperand .swap .e s

/-- 0xCB 0x34 `SWAP H` (R209). -/
def execSwap_H (s : State) : Result := rotateOperand .swap .h s

/-- 0xCB 0x35 `SWAP L` (R209). -/
def execSwap_L (s : State) : Result := rotateOperand .swap .l s

/-- 0xCB 0x36 `SWAP (HL)` (R209). -/
def execSwap_mHL (s : State) : Result := rotateOperand .swap .m s

/-- 0xCB 0x37 `SWAP A` (R209). -/
def execSwap_A (s : State) : Result := rotateOperand .swap .a s

/-- 0xCB 0x38 `SRL B` (R210). -/
def execSrl_B (s : State) : Result := rotateOperand .srl .b s

/-- 0xCB 0x39 `SRL C` (R210). -/
def execSrl_C (s : State) : Result := rotateOperand .srl .c s

/-- 0xCB 0x3A `SRL D` (R210). -/
def execSrl_D (s : State) : Result := rotateOperand .srl .d s

/-- 0xCB 0x3B `SRL E` (R210). -/
def execSrl_E (s : State) : Result := rotateOperand .srl .e s

/-- 0xCB 0x3C `SRL H` (R210). -/
def execSrl_H (s : State) : Result := rotateOperand .srl .h s

/-- 0xCB 0x3D `SRL L` (R210). -/
def execSrl_L (s : State) : Result := rotateOperand .srl .l s

/-- 0xCB 0x3E `SRL (HL)` (R210). -/
def execSrl_mHL (s : State) : Result := rotateOperand .srl .m s

/-- 0xCB 0x3F `SRL A` (R210). -/
def execSrl_A (s : State) : Result := rotateOperand .srl .a s

/-- 0xCB 0x40 `BIT 0,B` (R211). -/
def execBit_0_B (s : State) : Result := testBit 0#3 .b s

/-- 0xCB 0x41 `BIT 0,C` (R211). -/
def execBit_0_C (s : State) : Result := testBit 0#3 .c s

/-- 0xCB 0x42 `BIT 0,D` (R211). -/
def execBit_0_D (s : State) : Result := testBit 0#3 .d s

/-- 0xCB 0x43 `BIT 0,E` (R211). -/
def execBit_0_E (s : State) : Result := testBit 0#3 .e s

/-- 0xCB 0x44 `BIT 0,H` (R211). -/
def execBit_0_H (s : State) : Result := testBit 0#3 .h s

/-- 0xCB 0x45 `BIT 0,L` (R211). -/
def execBit_0_L (s : State) : Result := testBit 0#3 .l s

/-- 0xCB 0x46 `BIT 0,(HL)` (R211). -/
def execBit_0_mHL (s : State) : Result := testBit 0#3 .m s

/-- 0xCB 0x47 `BIT 0,A` (R211). -/
def execBit_0_A (s : State) : Result := testBit 0#3 .a s

/-- 0xCB 0x48 `BIT 1,B` (R211). -/
def execBit_1_B (s : State) : Result := testBit 1#3 .b s

/-- 0xCB 0x49 `BIT 1,C` (R211). -/
def execBit_1_C (s : State) : Result := testBit 1#3 .c s

/-- 0xCB 0x4A `BIT 1,D` (R211). -/
def execBit_1_D (s : State) : Result := testBit 1#3 .d s

/-- 0xCB 0x4B `BIT 1,E` (R211). -/
def execBit_1_E (s : State) : Result := testBit 1#3 .e s

/-- 0xCB 0x4C `BIT 1,H` (R211). -/
def execBit_1_H (s : State) : Result := testBit 1#3 .h s

/-- 0xCB 0x4D `BIT 1,L` (R211). -/
def execBit_1_L (s : State) : Result := testBit 1#3 .l s

/-- 0xCB 0x4E `BIT 1,(HL)` (R211). -/
def execBit_1_mHL (s : State) : Result := testBit 1#3 .m s

/-- 0xCB 0x4F `BIT 1,A` (R211). -/
def execBit_1_A (s : State) : Result := testBit 1#3 .a s

/-- 0xCB 0x50 `BIT 2,B` (R211). -/
def execBit_2_B (s : State) : Result := testBit 2#3 .b s

/-- 0xCB 0x51 `BIT 2,C` (R211). -/
def execBit_2_C (s : State) : Result := testBit 2#3 .c s

/-- 0xCB 0x52 `BIT 2,D` (R211). -/
def execBit_2_D (s : State) : Result := testBit 2#3 .d s

/-- 0xCB 0x53 `BIT 2,E` (R211). -/
def execBit_2_E (s : State) : Result := testBit 2#3 .e s

/-- 0xCB 0x54 `BIT 2,H` (R211). -/
def execBit_2_H (s : State) : Result := testBit 2#3 .h s

/-- 0xCB 0x55 `BIT 2,L` (R211). -/
def execBit_2_L (s : State) : Result := testBit 2#3 .l s

/-- 0xCB 0x56 `BIT 2,(HL)` (R211). -/
def execBit_2_mHL (s : State) : Result := testBit 2#3 .m s

/-- 0xCB 0x57 `BIT 2,A` (R211). -/
def execBit_2_A (s : State) : Result := testBit 2#3 .a s

/-- 0xCB 0x58 `BIT 3,B` (R211). -/
def execBit_3_B (s : State) : Result := testBit 3#3 .b s

/-- 0xCB 0x59 `BIT 3,C` (R211). -/
def execBit_3_C (s : State) : Result := testBit 3#3 .c s

/-- 0xCB 0x5A `BIT 3,D` (R211). -/
def execBit_3_D (s : State) : Result := testBit 3#3 .d s

/-- 0xCB 0x5B `BIT 3,E` (R211). -/
def execBit_3_E (s : State) : Result := testBit 3#3 .e s

/-- 0xCB 0x5C `BIT 3,H` (R211). -/
def execBit_3_H (s : State) : Result := testBit 3#3 .h s

/-- 0xCB 0x5D `BIT 3,L` (R211). -/
def execBit_3_L (s : State) : Result := testBit 3#3 .l s

/-- 0xCB 0x5E `BIT 3,(HL)` (R211). -/
def execBit_3_mHL (s : State) : Result := testBit 3#3 .m s

/-- 0xCB 0x5F `BIT 3,A` (R211). -/
def execBit_3_A (s : State) : Result := testBit 3#3 .a s

/-- 0xCB 0x60 `BIT 4,B` (R211). -/
def execBit_4_B (s : State) : Result := testBit 4#3 .b s

/-- 0xCB 0x61 `BIT 4,C` (R211). -/
def execBit_4_C (s : State) : Result := testBit 4#3 .c s

/-- 0xCB 0x62 `BIT 4,D` (R211). -/
def execBit_4_D (s : State) : Result := testBit 4#3 .d s

/-- 0xCB 0x63 `BIT 4,E` (R211). -/
def execBit_4_E (s : State) : Result := testBit 4#3 .e s

/-- 0xCB 0x64 `BIT 4,H` (R211). -/
def execBit_4_H (s : State) : Result := testBit 4#3 .h s

/-- 0xCB 0x65 `BIT 4,L` (R211). -/
def execBit_4_L (s : State) : Result := testBit 4#3 .l s

/-- 0xCB 0x66 `BIT 4,(HL)` (R211). -/
def execBit_4_mHL (s : State) : Result := testBit 4#3 .m s

/-- 0xCB 0x67 `BIT 4,A` (R211). -/
def execBit_4_A (s : State) : Result := testBit 4#3 .a s

/-- 0xCB 0x68 `BIT 5,B` (R211). -/
def execBit_5_B (s : State) : Result := testBit 5#3 .b s

/-- 0xCB 0x69 `BIT 5,C` (R211). -/
def execBit_5_C (s : State) : Result := testBit 5#3 .c s

/-- 0xCB 0x6A `BIT 5,D` (R211). -/
def execBit_5_D (s : State) : Result := testBit 5#3 .d s

/-- 0xCB 0x6B `BIT 5,E` (R211). -/
def execBit_5_E (s : State) : Result := testBit 5#3 .e s

/-- 0xCB 0x6C `BIT 5,H` (R211). -/
def execBit_5_H (s : State) : Result := testBit 5#3 .h s

/-- 0xCB 0x6D `BIT 5,L` (R211). -/
def execBit_5_L (s : State) : Result := testBit 5#3 .l s

/-- 0xCB 0x6E `BIT 5,(HL)` (R211). -/
def execBit_5_mHL (s : State) : Result := testBit 5#3 .m s

/-- 0xCB 0x6F `BIT 5,A` (R211). -/
def execBit_5_A (s : State) : Result := testBit 5#3 .a s

/-- 0xCB 0x70 `BIT 6,B` (R211). -/
def execBit_6_B (s : State) : Result := testBit 6#3 .b s

/-- 0xCB 0x71 `BIT 6,C` (R211). -/
def execBit_6_C (s : State) : Result := testBit 6#3 .c s

/-- 0xCB 0x72 `BIT 6,D` (R211). -/
def execBit_6_D (s : State) : Result := testBit 6#3 .d s

/-- 0xCB 0x73 `BIT 6,E` (R211). -/
def execBit_6_E (s : State) : Result := testBit 6#3 .e s

/-- 0xCB 0x74 `BIT 6,H` (R211). -/
def execBit_6_H (s : State) : Result := testBit 6#3 .h s

/-- 0xCB 0x75 `BIT 6,L` (R211). -/
def execBit_6_L (s : State) : Result := testBit 6#3 .l s

/-- 0xCB 0x76 `BIT 6,(HL)` (R211). -/
def execBit_6_mHL (s : State) : Result := testBit 6#3 .m s

/-- 0xCB 0x77 `BIT 6,A` (R211). -/
def execBit_6_A (s : State) : Result := testBit 6#3 .a s

/-- 0xCB 0x78 `BIT 7,B` (R211). -/
def execBit_7_B (s : State) : Result := testBit 7#3 .b s

/-- 0xCB 0x79 `BIT 7,C` (R211). -/
def execBit_7_C (s : State) : Result := testBit 7#3 .c s

/-- 0xCB 0x7A `BIT 7,D` (R211). -/
def execBit_7_D (s : State) : Result := testBit 7#3 .d s

/-- 0xCB 0x7B `BIT 7,E` (R211). -/
def execBit_7_E (s : State) : Result := testBit 7#3 .e s

/-- 0xCB 0x7C `BIT 7,H` (R211). -/
def execBit_7_H (s : State) : Result := testBit 7#3 .h s

/-- 0xCB 0x7D `BIT 7,L` (R211). -/
def execBit_7_L (s : State) : Result := testBit 7#3 .l s

/-- 0xCB 0x7E `BIT 7,(HL)` (R211). -/
def execBit_7_mHL (s : State) : Result := testBit 7#3 .m s

/-- 0xCB 0x7F `BIT 7,A` (R211). -/
def execBit_7_A (s : State) : Result := testBit 7#3 .a s

/-- 0xCB 0x80 `RES 0,B` (R212). -/
def execRes_0_B (s : State) : Result := resetBit 0#3 .b s

/-- 0xCB 0x81 `RES 0,C` (R212). -/
def execRes_0_C (s : State) : Result := resetBit 0#3 .c s

/-- 0xCB 0x82 `RES 0,D` (R212). -/
def execRes_0_D (s : State) : Result := resetBit 0#3 .d s

/-- 0xCB 0x83 `RES 0,E` (R212). -/
def execRes_0_E (s : State) : Result := resetBit 0#3 .e s

/-- 0xCB 0x84 `RES 0,H` (R212). -/
def execRes_0_H (s : State) : Result := resetBit 0#3 .h s

/-- 0xCB 0x85 `RES 0,L` (R212). -/
def execRes_0_L (s : State) : Result := resetBit 0#3 .l s

/-- 0xCB 0x86 `RES 0,(HL)` (R212). -/
def execRes_0_mHL (s : State) : Result := resetBit 0#3 .m s

/-- 0xCB 0x87 `RES 0,A` (R212). -/
def execRes_0_A (s : State) : Result := resetBit 0#3 .a s

/-- 0xCB 0x88 `RES 1,B` (R212). -/
def execRes_1_B (s : State) : Result := resetBit 1#3 .b s

/-- 0xCB 0x89 `RES 1,C` (R212). -/
def execRes_1_C (s : State) : Result := resetBit 1#3 .c s

/-- 0xCB 0x8A `RES 1,D` (R212). -/
def execRes_1_D (s : State) : Result := resetBit 1#3 .d s

/-- 0xCB 0x8B `RES 1,E` (R212). -/
def execRes_1_E (s : State) : Result := resetBit 1#3 .e s

/-- 0xCB 0x8C `RES 1,H` (R212). -/
def execRes_1_H (s : State) : Result := resetBit 1#3 .h s

/-- 0xCB 0x8D `RES 1,L` (R212). -/
def execRes_1_L (s : State) : Result := resetBit 1#3 .l s

/-- 0xCB 0x8E `RES 1,(HL)` (R212). -/
def execRes_1_mHL (s : State) : Result := resetBit 1#3 .m s

/-- 0xCB 0x8F `RES 1,A` (R212). -/
def execRes_1_A (s : State) : Result := resetBit 1#3 .a s

/-- 0xCB 0x90 `RES 2,B` (R212). -/
def execRes_2_B (s : State) : Result := resetBit 2#3 .b s

/-- 0xCB 0x91 `RES 2,C` (R212). -/
def execRes_2_C (s : State) : Result := resetBit 2#3 .c s

/-- 0xCB 0x92 `RES 2,D` (R212). -/
def execRes_2_D (s : State) : Result := resetBit 2#3 .d s

/-- 0xCB 0x93 `RES 2,E` (R212). -/
def execRes_2_E (s : State) : Result := resetBit 2#3 .e s

/-- 0xCB 0x94 `RES 2,H` (R212). -/
def execRes_2_H (s : State) : Result := resetBit 2#3 .h s

/-- 0xCB 0x95 `RES 2,L` (R212). -/
def execRes_2_L (s : State) : Result := resetBit 2#3 .l s

/-- 0xCB 0x96 `RES 2,(HL)` (R212). -/
def execRes_2_mHL (s : State) : Result := resetBit 2#3 .m s

/-- 0xCB 0x97 `RES 2,A` (R212). -/
def execRes_2_A (s : State) : Result := resetBit 2#3 .a s

/-- 0xCB 0x98 `RES 3,B` (R212). -/
def execRes_3_B (s : State) : Result := resetBit 3#3 .b s

/-- 0xCB 0x99 `RES 3,C` (R212). -/
def execRes_3_C (s : State) : Result := resetBit 3#3 .c s

/-- 0xCB 0x9A `RES 3,D` (R212). -/
def execRes_3_D (s : State) : Result := resetBit 3#3 .d s

/-- 0xCB 0x9B `RES 3,E` (R212). -/
def execRes_3_E (s : State) : Result := resetBit 3#3 .e s

/-- 0xCB 0x9C `RES 3,H` (R212). -/
def execRes_3_H (s : State) : Result := resetBit 3#3 .h s

/-- 0xCB 0x9D `RES 3,L` (R212). -/
def execRes_3_L (s : State) : Result := resetBit 3#3 .l s

/-- 0xCB 0x9E `RES 3,(HL)` (R212). -/
def execRes_3_mHL (s : State) : Result := resetBit 3#3 .m s

/-- 0xCB 0x9F `RES 3,A` (R212). -/
def execRes_3_A (s : State) : Result := resetBit 3#3 .a s

/-- 0xCB 0xA0 `RES 4,B` (R212). -/
def execRes_4_B (s : State) : Result := resetBit 4#3 .b s

/-- 0xCB 0xA1 `RES 4,C` (R212). -/
def execRes_4_C (s : State) : Result := resetBit 4#3 .c s

/-- 0xCB 0xA2 `RES 4,D` (R212). -/
def execRes_4_D (s : State) : Result := resetBit 4#3 .d s

/-- 0xCB 0xA3 `RES 4,E` (R212). -/
def execRes_4_E (s : State) : Result := resetBit 4#3 .e s

/-- 0xCB 0xA4 `RES 4,H` (R212). -/
def execRes_4_H (s : State) : Result := resetBit 4#3 .h s

/-- 0xCB 0xA5 `RES 4,L` (R212). -/
def execRes_4_L (s : State) : Result := resetBit 4#3 .l s

/-- 0xCB 0xA6 `RES 4,(HL)` (R212). -/
def execRes_4_mHL (s : State) : Result := resetBit 4#3 .m s

/-- 0xCB 0xA7 `RES 4,A` (R212). -/
def execRes_4_A (s : State) : Result := resetBit 4#3 .a s

/-- 0xCB 0xA8 `RES 5,B` (R212). -/
def execRes_5_B (s : State) : Result := resetBit 5#3 .b s

/-- 0xCB 0xA9 `RES 5,C` (R212). -/
def execRes_5_C (s : State) : Result := resetBit 5#3 .c s

/-- 0xCB 0xAA `RES 5,D` (R212). -/
def execRes_5_D (s : State) : Result := resetBit 5#3 .d s

/-- 0xCB 0xAB `RES 5,E` (R212). -/
def execRes_5_E (s : State) : Result := resetBit 5#3 .e s

/-- 0xCB 0xAC `RES 5,H` (R212). -/
def execRes_5_H (s : State) : Result := resetBit 5#3 .h s

/-- 0xCB 0xAD `RES 5,L` (R212). -/
def execRes_5_L (s : State) : Result := resetBit 5#3 .l s

/-- 0xCB 0xAE `RES 5,(HL)` (R212). -/
def execRes_5_mHL (s : State) : Result := resetBit 5#3 .m s

/-- 0xCB 0xAF `RES 5,A` (R212). -/
def execRes_5_A (s : State) : Result := resetBit 5#3 .a s

/-- 0xCB 0xB0 `RES 6,B` (R212). -/
def execRes_6_B (s : State) : Result := resetBit 6#3 .b s

/-- 0xCB 0xB1 `RES 6,C` (R212). -/
def execRes_6_C (s : State) : Result := resetBit 6#3 .c s

/-- 0xCB 0xB2 `RES 6,D` (R212). -/
def execRes_6_D (s : State) : Result := resetBit 6#3 .d s

/-- 0xCB 0xB3 `RES 6,E` (R212). -/
def execRes_6_E (s : State) : Result := resetBit 6#3 .e s

/-- 0xCB 0xB4 `RES 6,H` (R212). -/
def execRes_6_H (s : State) : Result := resetBit 6#3 .h s

/-- 0xCB 0xB5 `RES 6,L` (R212). -/
def execRes_6_L (s : State) : Result := resetBit 6#3 .l s

/-- 0xCB 0xB6 `RES 6,(HL)` (R212). -/
def execRes_6_mHL (s : State) : Result := resetBit 6#3 .m s

/-- 0xCB 0xB7 `RES 6,A` (R212). -/
def execRes_6_A (s : State) : Result := resetBit 6#3 .a s

/-- 0xCB 0xB8 `RES 7,B` (R212). -/
def execRes_7_B (s : State) : Result := resetBit 7#3 .b s

/-- 0xCB 0xB9 `RES 7,C` (R212). -/
def execRes_7_C (s : State) : Result := resetBit 7#3 .c s

/-- 0xCB 0xBA `RES 7,D` (R212). -/
def execRes_7_D (s : State) : Result := resetBit 7#3 .d s

/-- 0xCB 0xBB `RES 7,E` (R212). -/
def execRes_7_E (s : State) : Result := resetBit 7#3 .e s

/-- 0xCB 0xBC `RES 7,H` (R212). -/
def execRes_7_H (s : State) : Result := resetBit 7#3 .h s

/-- 0xCB 0xBD `RES 7,L` (R212). -/
def execRes_7_L (s : State) : Result := resetBit 7#3 .l s

/-- 0xCB 0xBE `RES 7,(HL)` (R212). -/
def execRes_7_mHL (s : State) : Result := resetBit 7#3 .m s

/-- 0xCB 0xBF `RES 7,A` (R212). -/
def execRes_7_A (s : State) : Result := resetBit 7#3 .a s

/-- 0xCB 0xC0 `SET 0,B` (R213). -/
def execSet_0_B (s : State) : Result := setBit 0#3 .b s

/-- 0xCB 0xC1 `SET 0,C` (R213). -/
def execSet_0_C (s : State) : Result := setBit 0#3 .c s

/-- 0xCB 0xC2 `SET 0,D` (R213). -/
def execSet_0_D (s : State) : Result := setBit 0#3 .d s

/-- 0xCB 0xC3 `SET 0,E` (R213). -/
def execSet_0_E (s : State) : Result := setBit 0#3 .e s

/-- 0xCB 0xC4 `SET 0,H` (R213). -/
def execSet_0_H (s : State) : Result := setBit 0#3 .h s

/-- 0xCB 0xC5 `SET 0,L` (R213). -/
def execSet_0_L (s : State) : Result := setBit 0#3 .l s

/-- 0xCB 0xC6 `SET 0,(HL)` (R213). -/
def execSet_0_mHL (s : State) : Result := setBit 0#3 .m s

/-- 0xCB 0xC7 `SET 0,A` (R213). -/
def execSet_0_A (s : State) : Result := setBit 0#3 .a s

/-- 0xCB 0xC8 `SET 1,B` (R213). -/
def execSet_1_B (s : State) : Result := setBit 1#3 .b s

/-- 0xCB 0xC9 `SET 1,C` (R213). -/
def execSet_1_C (s : State) : Result := setBit 1#3 .c s

/-- 0xCB 0xCA `SET 1,D` (R213). -/
def execSet_1_D (s : State) : Result := setBit 1#3 .d s

/-- 0xCB 0xCB `SET 1,E` (R213). -/
def execSet_1_E (s : State) : Result := setBit 1#3 .e s

/-- 0xCB 0xCC `SET 1,H` (R213). -/
def execSet_1_H (s : State) : Result := setBit 1#3 .h s

/-- 0xCB 0xCD `SET 1,L` (R213). -/
def execSet_1_L (s : State) : Result := setBit 1#3 .l s

/-- 0xCB 0xCE `SET 1,(HL)` (R213). -/
def execSet_1_mHL (s : State) : Result := setBit 1#3 .m s

/-- 0xCB 0xCF `SET 1,A` (R213). -/
def execSet_1_A (s : State) : Result := setBit 1#3 .a s

/-- 0xCB 0xD0 `SET 2,B` (R213). -/
def execSet_2_B (s : State) : Result := setBit 2#3 .b s

/-- 0xCB 0xD1 `SET 2,C` (R213). -/
def execSet_2_C (s : State) : Result := setBit 2#3 .c s

/-- 0xCB 0xD2 `SET 2,D` (R213). -/
def execSet_2_D (s : State) : Result := setBit 2#3 .d s

/-- 0xCB 0xD3 `SET 2,E` (R213). -/
def execSet_2_E (s : State) : Result := setBit 2#3 .e s

/-- 0xCB 0xD4 `SET 2,H` (R213). -/
def execSet_2_H (s : State) : Result := setBit 2#3 .h s

/-- 0xCB 0xD5 `SET 2,L` (R213). -/
def execSet_2_L (s : State) : Result := setBit 2#3 .l s

/-- 0xCB 0xD6 `SET 2,(HL)` (R213). -/
def execSet_2_mHL (s : State) : Result := setBit 2#3 .m s

/-- 0xCB 0xD7 `SET 2,A` (R213). -/
def execSet_2_A (s : State) : Result := setBit 2#3 .a s

/-- 0xCB 0xD8 `SET 3,B` (R213). -/
def execSet_3_B (s : State) : Result := setBit 3#3 .b s

/-- 0xCB 0xD9 `SET 3,C` (R213). -/
def execSet_3_C (s : State) : Result := setBit 3#3 .c s

/-- 0xCB 0xDA `SET 3,D` (R213). -/
def execSet_3_D (s : State) : Result := setBit 3#3 .d s

/-- 0xCB 0xDB `SET 3,E` (R213). -/
def execSet_3_E (s : State) : Result := setBit 3#3 .e s

/-- 0xCB 0xDC `SET 3,H` (R213). -/
def execSet_3_H (s : State) : Result := setBit 3#3 .h s

/-- 0xCB 0xDD `SET 3,L` (R213). -/
def execSet_3_L (s : State) : Result := setBit 3#3 .l s

/-- 0xCB 0xDE `SET 3,(HL)` (R213). -/
def execSet_3_mHL (s : State) : Result := setBit 3#3 .m s

/-- 0xCB 0xDF `SET 3,A` (R213). -/
def execSet_3_A (s : State) : Result := setBit 3#3 .a s

/-- 0xCB 0xE0 `SET 4,B` (R213). -/
def execSet_4_B (s : State) : Result := setBit 4#3 .b s

/-- 0xCB 0xE1 `SET 4,C` (R213). -/
def execSet_4_C (s : State) : Result := setBit 4#3 .c s

/-- 0xCB 0xE2 `SET 4,D` (R213). -/
def execSet_4_D (s : State) : Result := setBit 4#3 .d s

/-- 0xCB 0xE3 `SET 4,E` (R213). -/
def execSet_4_E (s : State) : Result := setBit 4#3 .e s

/-- 0xCB 0xE4 `SET 4,H` (R213). -/
def execSet_4_H (s : State) : Result := setBit 4#3 .h s

/-- 0xCB 0xE5 `SET 4,L` (R213). -/
def execSet_4_L (s : State) : Result := setBit 4#3 .l s

/-- 0xCB 0xE6 `SET 4,(HL)` (R213). -/
def execSet_4_mHL (s : State) : Result := setBit 4#3 .m s

/-- 0xCB 0xE7 `SET 4,A` (R213). -/
def execSet_4_A (s : State) : Result := setBit 4#3 .a s

/-- 0xCB 0xE8 `SET 5,B` (R213). -/
def execSet_5_B (s : State) : Result := setBit 5#3 .b s

/-- 0xCB 0xE9 `SET 5,C` (R213). -/
def execSet_5_C (s : State) : Result := setBit 5#3 .c s

/-- 0xCB 0xEA `SET 5,D` (R213). -/
def execSet_5_D (s : State) : Result := setBit 5#3 .d s

/-- 0xCB 0xEB `SET 5,E` (R213). -/
def execSet_5_E (s : State) : Result := setBit 5#3 .e s

/-- 0xCB 0xEC `SET 5,H` (R213). -/
def execSet_5_H (s : State) : Result := setBit 5#3 .h s

/-- 0xCB 0xED `SET 5,L` (R213). -/
def execSet_5_L (s : State) : Result := setBit 5#3 .l s

/-- 0xCB 0xEE `SET 5,(HL)` (R213). -/
def execSet_5_mHL (s : State) : Result := setBit 5#3 .m s

/-- 0xCB 0xEF `SET 5,A` (R213). -/
def execSet_5_A (s : State) : Result := setBit 5#3 .a s

/-- 0xCB 0xF0 `SET 6,B` (R213). -/
def execSet_6_B (s : State) : Result := setBit 6#3 .b s

/-- 0xCB 0xF1 `SET 6,C` (R213). -/
def execSet_6_C (s : State) : Result := setBit 6#3 .c s

/-- 0xCB 0xF2 `SET 6,D` (R213). -/
def execSet_6_D (s : State) : Result := setBit 6#3 .d s

/-- 0xCB 0xF3 `SET 6,E` (R213). -/
def execSet_6_E (s : State) : Result := setBit 6#3 .e s

/-- 0xCB 0xF4 `SET 6,H` (R213). -/
def execSet_6_H (s : State) : Result := setBit 6#3 .h s

/-- 0xCB 0xF5 `SET 6,L` (R213). -/
def execSet_6_L (s : State) : Result := setBit 6#3 .l s

/-- 0xCB 0xF6 `SET 6,(HL)` (R213). -/
def execSet_6_mHL (s : State) : Result := setBit 6#3 .m s

/-- 0xCB 0xF7 `SET 6,A` (R213). -/
def execSet_6_A (s : State) : Result := setBit 6#3 .a s

/-- 0xCB 0xF8 `SET 7,B` (R213). -/
def execSet_7_B (s : State) : Result := setBit 7#3 .b s

/-- 0xCB 0xF9 `SET 7,C` (R213). -/
def execSet_7_C (s : State) : Result := setBit 7#3 .c s

/-- 0xCB 0xFA `SET 7,D` (R213). -/
def execSet_7_D (s : State) : Result := setBit 7#3 .d s

/-- 0xCB 0xFB `SET 7,E` (R213). -/
def execSet_7_E (s : State) : Result := setBit 7#3 .e s

/-- 0xCB 0xFC `SET 7,H` (R213). -/
def execSet_7_H (s : State) : Result := setBit 7#3 .h s

/-- 0xCB 0xFD `SET 7,L` (R213). -/
def execSet_7_L (s : State) : Result := setBit 7#3 .l s

/-- 0xCB 0xFE `SET 7,(HL)` (R213). -/
def execSet_7_mHL (s : State) : Result := setBit 7#3 .m s

/-- 0xCB 0xFF `SET 7,A` (R213). -/
def execSet_7_A (s : State) : Result := setBit 7#3 .a s

/-! ## The second level of execution (R200) -/

/-- The meaning of a rotate, shift or swap. -/
def execRot (o : RotOp) (z : R8) (s : State) : Result :=
  match o, z with
  | .rlc, .b => execRlc_B s | .rlc, .c => execRlc_C s | .rlc, .d => execRlc_D s | .rlc, .e => execRlc_E s
  | .rlc, .h => execRlc_H s | .rlc, .l => execRlc_L s | .rlc, .m => execRlc_mHL s | .rlc, .a => execRlc_A s
  | .rrc, .b => execRrc_B s | .rrc, .c => execRrc_C s | .rrc, .d => execRrc_D s | .rrc, .e => execRrc_E s
  | .rrc, .h => execRrc_H s | .rrc, .l => execRrc_L s | .rrc, .m => execRrc_mHL s | .rrc, .a => execRrc_A s
  | .rl, .b => execRl_B s | .rl, .c => execRl_C s | .rl, .d => execRl_D s | .rl, .e => execRl_E s
  | .rl, .h => execRl_H s | .rl, .l => execRl_L s | .rl, .m => execRl_mHL s | .rl, .a => execRl_A s
  | .rr, .b => execRr_B s | .rr, .c => execRr_C s | .rr, .d => execRr_D s | .rr, .e => execRr_E s
  | .rr, .h => execRr_H s | .rr, .l => execRr_L s | .rr, .m => execRr_mHL s | .rr, .a => execRr_A s
  | .sla, .b => execSla_B s | .sla, .c => execSla_C s | .sla, .d => execSla_D s | .sla, .e => execSla_E s
  | .sla, .h => execSla_H s | .sla, .l => execSla_L s | .sla, .m => execSla_mHL s | .sla, .a => execSla_A s
  | .sra, .b => execSra_B s | .sra, .c => execSra_C s | .sra, .d => execSra_D s | .sra, .e => execSra_E s
  | .sra, .h => execSra_H s | .sra, .l => execSra_L s | .sra, .m => execSra_mHL s | .sra, .a => execSra_A s
  | .swap, .b => execSwap_B s | .swap, .c => execSwap_C s | .swap, .d => execSwap_D s | .swap, .e => execSwap_E s
  | .swap, .h => execSwap_H s | .swap, .l => execSwap_L s | .swap, .m => execSwap_mHL s | .swap, .a => execSwap_A s
  | .srl, .b => execSrl_B s | .srl, .c => execSrl_C s | .srl, .d => execSrl_D s | .srl, .e => execSrl_E s
  | .srl, .h => execSrl_H s | .srl, .l => execSrl_L s | .srl, .m => execSrl_mHL s | .srl, .a => execSrl_A s

/-- The meaning of `BIT b,z`. -/
def execBit (b : BitVec 3) (z : R8) (s : State) : Result :=
  match z with
  | .b => pick8 b (execBit_0_B s) (execBit_1_B s) (execBit_2_B s) (execBit_3_B s) (execBit_4_B s) (execBit_5_B s) (execBit_6_B s) (execBit_7_B s)
  | .c => pick8 b (execBit_0_C s) (execBit_1_C s) (execBit_2_C s) (execBit_3_C s) (execBit_4_C s) (execBit_5_C s) (execBit_6_C s) (execBit_7_C s)
  | .d => pick8 b (execBit_0_D s) (execBit_1_D s) (execBit_2_D s) (execBit_3_D s) (execBit_4_D s) (execBit_5_D s) (execBit_6_D s) (execBit_7_D s)
  | .e => pick8 b (execBit_0_E s) (execBit_1_E s) (execBit_2_E s) (execBit_3_E s) (execBit_4_E s) (execBit_5_E s) (execBit_6_E s) (execBit_7_E s)
  | .h => pick8 b (execBit_0_H s) (execBit_1_H s) (execBit_2_H s) (execBit_3_H s) (execBit_4_H s) (execBit_5_H s) (execBit_6_H s) (execBit_7_H s)
  | .l => pick8 b (execBit_0_L s) (execBit_1_L s) (execBit_2_L s) (execBit_3_L s) (execBit_4_L s) (execBit_5_L s) (execBit_6_L s) (execBit_7_L s)
  | .m => pick8 b (execBit_0_mHL s) (execBit_1_mHL s) (execBit_2_mHL s) (execBit_3_mHL s) (execBit_4_mHL s) (execBit_5_mHL s) (execBit_6_mHL s) (execBit_7_mHL s)
  | .a => pick8 b (execBit_0_A s) (execBit_1_A s) (execBit_2_A s) (execBit_3_A s) (execBit_4_A s) (execBit_5_A s) (execBit_6_A s) (execBit_7_A s)

/-- The meaning of `RES b,z`. -/
def execRes (b : BitVec 3) (z : R8) (s : State) : Result :=
  match z with
  | .b => pick8 b (execRes_0_B s) (execRes_1_B s) (execRes_2_B s) (execRes_3_B s) (execRes_4_B s) (execRes_5_B s) (execRes_6_B s) (execRes_7_B s)
  | .c => pick8 b (execRes_0_C s) (execRes_1_C s) (execRes_2_C s) (execRes_3_C s) (execRes_4_C s) (execRes_5_C s) (execRes_6_C s) (execRes_7_C s)
  | .d => pick8 b (execRes_0_D s) (execRes_1_D s) (execRes_2_D s) (execRes_3_D s) (execRes_4_D s) (execRes_5_D s) (execRes_6_D s) (execRes_7_D s)
  | .e => pick8 b (execRes_0_E s) (execRes_1_E s) (execRes_2_E s) (execRes_3_E s) (execRes_4_E s) (execRes_5_E s) (execRes_6_E s) (execRes_7_E s)
  | .h => pick8 b (execRes_0_H s) (execRes_1_H s) (execRes_2_H s) (execRes_3_H s) (execRes_4_H s) (execRes_5_H s) (execRes_6_H s) (execRes_7_H s)
  | .l => pick8 b (execRes_0_L s) (execRes_1_L s) (execRes_2_L s) (execRes_3_L s) (execRes_4_L s) (execRes_5_L s) (execRes_6_L s) (execRes_7_L s)
  | .m => pick8 b (execRes_0_mHL s) (execRes_1_mHL s) (execRes_2_mHL s) (execRes_3_mHL s) (execRes_4_mHL s) (execRes_5_mHL s) (execRes_6_mHL s) (execRes_7_mHL s)
  | .a => pick8 b (execRes_0_A s) (execRes_1_A s) (execRes_2_A s) (execRes_3_A s) (execRes_4_A s) (execRes_5_A s) (execRes_6_A s) (execRes_7_A s)

/-- The meaning of `SET b,z`. -/
def execSet (b : BitVec 3) (z : R8) (s : State) : Result :=
  match z with
  | .b => pick8 b (execSet_0_B s) (execSet_1_B s) (execSet_2_B s) (execSet_3_B s) (execSet_4_B s) (execSet_5_B s) (execSet_6_B s) (execSet_7_B s)
  | .c => pick8 b (execSet_0_C s) (execSet_1_C s) (execSet_2_C s) (execSet_3_C s) (execSet_4_C s) (execSet_5_C s) (execSet_6_C s) (execSet_7_C s)
  | .d => pick8 b (execSet_0_D s) (execSet_1_D s) (execSet_2_D s) (execSet_3_D s) (execSet_4_D s) (execSet_5_D s) (execSet_6_D s) (execSet_7_D s)
  | .e => pick8 b (execSet_0_E s) (execSet_1_E s) (execSet_2_E s) (execSet_3_E s) (execSet_4_E s) (execSet_5_E s) (execSet_6_E s) (execSet_7_E s)
  | .h => pick8 b (execSet_0_H s) (execSet_1_H s) (execSet_2_H s) (execSet_3_H s) (execSet_4_H s) (execSet_5_H s) (execSet_6_H s) (execSet_7_H s)
  | .l => pick8 b (execSet_0_L s) (execSet_1_L s) (execSet_2_L s) (execSet_3_L s) (execSet_4_L s) (execSet_5_L s) (execSet_6_L s) (execSet_7_L s)
  | .m => pick8 b (execSet_0_mHL s) (execSet_1_mHL s) (execSet_2_mHL s) (execSet_3_mHL s) (execSet_4_mHL s) (execSet_5_mHL s) (execSet_6_mHL s) (execSet_7_mHL s)
  | .a => pick8 b (execSet_0_A s) (execSet_1_A s) (execSet_2_A s) (execSet_3_A s) (execSet_4_A s) (execSet_5_A s) (execSet_6_A s) (execSet_7_A s)

/-- `execute_extended(ins)` (R200): the meaning of the extended instruction with these fields. -/
def execExtOp (x : ExtOp) (s : State) : Result :=
  match x with
  | .rot o z => execRot o z s
  | .bit b z => execBit b z s
  | .res b z => execRes b z s
  | .set b z => execSet b z s

/-- 0xCB `PREFIX CB` (R200): fetch the extended opcode, decode it with the extended table, run it, in the same step. -/
def execPrefix_CB (s : State) : Result := execExtOp (extFields (fetch8 s).1) (fetch8 s).2

end Sys2Proof.Machine
end

