-- ==== Sys2Proof/Machine/Load8.lean ====
section
/-! DEFINITION. 8-bit loads (41_load8.md). Each moves one byte whole; none writes a flag, none can fail (R105). In every
meaning `pc` already addresses the byte after the opcode (40_step.md R90). -/

namespace Sys2Proof.Machine

/-- Copy an operand to an operand (R100, R101, R102): the source is read whole before the destination is written. -/
def loadOperand (dst src : R8) (s : State) : Result := .next (writeR8 dst (readR8 src s) s)

/-- Load an operand with the immediate byte (R103, R104). -/
def loadImmediate (dst : R8) (s : State) : Result := .next (writeR8 dst (fetch8 s).1 (fetch8 s).2)

/-- Store A at the address a view delivers (R106 to R109); HLI and HLD move HL as a side effect of being read. -/
def storeA (v : MemView) (s : State) : Result :=
  .next ((readPair (memView v) s).2.setByte (readPair (memView v) s).1 (s.cell .a))

/-- Load A from the address a view delivers (R110 to R113). -/
def loadA (v : MemView) (s : State) : Result :=
  .next ((readPair (memView v) s).2.setCell .a (s.byteAt (readPair (memView v) s).1))

/-! ## Loads between operands of the 3-bit index -/

/-- 0x40 `LD B,B` (R100). -/
def execLd_B_B (s : State) : Result := loadOperand .b .b s

/-- 0x41 `LD B,C` (R100). -/
def execLd_B_C (s : State) : Result := loadOperand .b .c s

/-- 0x42 `LD B,D` (R100). -/
def execLd_B_D (s : State) : Result := loadOperand .b .d s

/-- 0x43 `LD B,E` (R100). -/
def execLd_B_E (s : State) : Result := loadOperand .b .e s

/-- 0x44 `LD B,H` (R100). -/
def execLd_B_H (s : State) : Result := loadOperand .b .h s

/-- 0x45 `LD B,L` (R100). -/
def execLd_B_L (s : State) : Result := loadOperand .b .l s

/-- 0x46 `LD B,(HL)` (R101). -/
def execLd_B_mHL (s : State) : Result := loadOperand .b .m s

/-- 0x47 `LD B,A` (R100). -/
def execLd_B_A (s : State) : Result := loadOperand .b .a s

/-- 0x48 `LD C,B` (R100). -/
def execLd_C_B (s : State) : Result := loadOperand .c .b s

/-- 0x49 `LD C,C` (R100). -/
def execLd_C_C (s : State) : Result := loadOperand .c .c s

/-- 0x4A `LD C,D` (R100). -/
def execLd_C_D (s : State) : Result := loadOperand .c .d s

/-- 0x4B `LD C,E` (R100). -/
def execLd_C_E (s : State) : Result := loadOperand .c .e s

/-- 0x4C `LD C,H` (R100). -/
def execLd_C_H (s : State) : Result := loadOperand .c .h s

/-- 0x4D `LD C,L` (R100). -/
def execLd_C_L (s : State) : Result := loadOperand .c .l s

/-- 0x4E `LD C,(HL)` (R101). -/
def execLd_C_mHL (s : State) : Result := loadOperand .c .m s

/-- 0x4F `LD C,A` (R100). -/
def execLd_C_A (s : State) : Result := loadOperand .c .a s

/-- 0x50 `LD D,B` (R100). -/
def execLd_D_B (s : State) : Result := loadOperand .d .b s

/-- 0x51 `LD D,C` (R100). -/
def execLd_D_C (s : State) : Result := loadOperand .d .c s

/-- 0x52 `LD D,D` (R100). -/
def execLd_D_D (s : State) : Result := loadOperand .d .d s

/-- 0x53 `LD D,E` (R100). -/
def execLd_D_E (s : State) : Result := loadOperand .d .e s

/-- 0x54 `LD D,H` (R100). -/
def execLd_D_H (s : State) : Result := loadOperand .d .h s

/-- 0x55 `LD D,L` (R100). -/
def execLd_D_L (s : State) : Result := loadOperand .d .l s

/-- 0x56 `LD D,(HL)` (R101). -/
def execLd_D_mHL (s : State) : Result := loadOperand .d .m s

/-- 0x57 `LD D,A` (R100). -/
def execLd_D_A (s : State) : Result := loadOperand .d .a s

/-- 0x58 `LD E,B` (R100). -/
def execLd_E_B (s : State) : Result := loadOperand .e .b s

/-- 0x59 `LD E,C` (R100). -/
def execLd_E_C (s : State) : Result := loadOperand .e .c s

/-- 0x5A `LD E,D` (R100). -/
def execLd_E_D (s : State) : Result := loadOperand .e .d s

/-- 0x5B `LD E,E` (R100). -/
def execLd_E_E (s : State) : Result := loadOperand .e .e s

/-- 0x5C `LD E,H` (R100). -/
def execLd_E_H (s : State) : Result := loadOperand .e .h s

/-- 0x5D `LD E,L` (R100). -/
def execLd_E_L (s : State) : Result := loadOperand .e .l s

/-- 0x5E `LD E,(HL)` (R101). -/
def execLd_E_mHL (s : State) : Result := loadOperand .e .m s

/-- 0x5F `LD E,A` (R100). -/
def execLd_E_A (s : State) : Result := loadOperand .e .a s

/-- 0x60 `LD H,B` (R100). -/
def execLd_H_B (s : State) : Result := loadOperand .h .b s

/-- 0x61 `LD H,C` (R100). -/
def execLd_H_C (s : State) : Result := loadOperand .h .c s

/-- 0x62 `LD H,D` (R100). -/
def execLd_H_D (s : State) : Result := loadOperand .h .d s

/-- 0x63 `LD H,E` (R100). -/
def execLd_H_E (s : State) : Result := loadOperand .h .e s

/-- 0x64 `LD H,H` (R100). -/
def execLd_H_H (s : State) : Result := loadOperand .h .h s

/-- 0x65 `LD H,L` (R100). -/
def execLd_H_L (s : State) : Result := loadOperand .h .l s

/-- 0x66 `LD H,(HL)` (R101). -/
def execLd_H_mHL (s : State) : Result := loadOperand .h .m s

/-- 0x67 `LD H,A` (R100). -/
def execLd_H_A (s : State) : Result := loadOperand .h .a s

/-- 0x68 `LD L,B` (R100). -/
def execLd_L_B (s : State) : Result := loadOperand .l .b s

/-- 0x69 `LD L,C` (R100). -/
def execLd_L_C (s : State) : Result := loadOperand .l .c s

/-- 0x6A `LD L,D` (R100). -/
def execLd_L_D (s : State) : Result := loadOperand .l .d s

/-- 0x6B `LD L,E` (R100). -/
def execLd_L_E (s : State) : Result := loadOperand .l .e s

/-- 0x6C `LD L,H` (R100). -/
def execLd_L_H (s : State) : Result := loadOperand .l .h s

/-- 0x6D `LD L,L` (R100). -/
def execLd_L_L (s : State) : Result := loadOperand .l .l s

/-- 0x6E `LD L,(HL)` (R101). -/
def execLd_L_mHL (s : State) : Result := loadOperand .l .m s

/-- 0x6F `LD L,A` (R100). -/
def execLd_L_A (s : State) : Result := loadOperand .l .a s

/-- 0x70 `LD (HL),B` (R102). -/
def execLd_mHL_B (s : State) : Result := loadOperand .m .b s

/-- 0x71 `LD (HL),C` (R102). -/
def execLd_mHL_C (s : State) : Result := loadOperand .m .c s

/-- 0x72 `LD (HL),D` (R102). -/
def execLd_mHL_D (s : State) : Result := loadOperand .m .d s

/-- 0x73 `LD (HL),E` (R102). -/
def execLd_mHL_E (s : State) : Result := loadOperand .m .e s

/-- 0x74 `LD (HL),H` (R102). -/
def execLd_mHL_H (s : State) : Result := loadOperand .m .h s

/-- 0x75 `LD (HL),L` (R102). -/
def execLd_mHL_L (s : State) : Result := loadOperand .m .l s

/-- 0x77 `LD (HL),A` (R102). -/
def execLd_mHL_A (s : State) : Result := loadOperand .m .a s

/-- 0x78 `LD A,B` (R100). -/
def execLd_A_B (s : State) : Result := loadOperand .a .b s

/-- 0x79 `LD A,C` (R100). -/
def execLd_A_C (s : State) : Result := loadOperand .a .c s

/-- 0x7A `LD A,D` (R100). -/
def execLd_A_D (s : State) : Result := loadOperand .a .d s

/-- 0x7B `LD A,E` (R100). -/
def execLd_A_E (s : State) : Result := loadOperand .a .e s

/-- 0x7C `LD A,H` (R100). -/
def execLd_A_H (s : State) : Result := loadOperand .a .h s

/-- 0x7D `LD A,L` (R100). -/
def execLd_A_L (s : State) : Result := loadOperand .a .l s

/-- 0x7E `LD A,(HL)` (R101). -/
def execLd_A_mHL (s : State) : Result := loadOperand .a .m s

/-- 0x7F `LD A,A` (R100). -/
def execLd_A_A (s : State) : Result := loadOperand .a .a s

/-! ## Loads of an immediate byte -/

/-- 0x06 `LD B,d8` (R103). -/
def execLd_B_d8 (s : State) : Result := loadImmediate .b s

/-- 0x0E `LD C,d8` (R103). -/
def execLd_C_d8 (s : State) : Result := loadImmediate .c s

/-- 0x16 `LD D,d8` (R103). -/
def execLd_D_d8 (s : State) : Result := loadImmediate .d s

/-- 0x1E `LD E,d8` (R103). -/
def execLd_E_d8 (s : State) : Result := loadImmediate .e s

/-- 0x26 `LD H,d8` (R103). -/
def execLd_H_d8 (s : State) : Result := loadImmediate .h s

/-- 0x2E `LD L,d8` (R103). -/
def execLd_L_d8 (s : State) : Result := loadImmediate .l s

/-- 0x36 `LD (HL),d8` (R104). -/
def execLd_mHL_d8 (s : State) : Result := loadImmediate .m s

/-- 0x3E `LD A,d8` (R103). -/
def execLd_A_d8 (s : State) : Result := loadImmediate .a s

/-! ## Accumulator stores and loads through a view -/

/-- 0x02 `LD (BC),A` (R106). -/
def execLd_mBC_A (s : State) : Result := storeA .bc s

/-- 0x12 `LD (DE),A` (R107). -/
def execLd_mDE_A (s : State) : Result := storeA .de s

/-- 0x22 `LD (HL+),A` (R108). -/
def execLd_mHLI_A (s : State) : Result := storeA .hli s

/-- 0x32 `LD (HL-),A` (R109). -/
def execLd_mHLD_A (s : State) : Result := storeA .hld s

/-- 0x0A `LD A,(BC)` (R110). -/
def execLd_A_mBC (s : State) : Result := loadA .bc s

/-- 0x1A `LD A,(DE)` (R111). -/
def execLd_A_mDE (s : State) : Result := loadA .de s

/-- 0x2A `LD A,(HL+)` (R112). -/
def execLd_A_mHLI (s : State) : Result := loadA .hli s

/-- 0x3A `LD A,(HL-)` (R113). -/
def execLd_A_mHLD (s : State) : Result := loadA .hld s

end Sys2Proof.Machine
end

