-- ==== Sys2Proof/Machine/Unimplemented.lean ====
section
/-! DEFINITION. The 22 opcodes that decode and do not execute, and the 11 bytes without a meaning (46_unimplemented.md).
Each raises the failure the spec names, before any operand is fetched (R230, R260, 60_exceptions.md R274). -/

namespace Sys2Proof.Machine

/-- 0x07 `RLCA` (R231). -/
def execRlca (_s : State) : Result := raise (.unimplementedInstruction "RLCA")

/-- 0x08 `LD (a16),SP` (R239). -/
def execLd_ma16_SP (_s : State) : Result := raise (.unimplementedInstruction "LD (a16),SP")

/-- 0x0F `RRCA` (R232). -/
def execRrca (_s : State) : Result := raise (.unimplementedInstruction "RRCA")

/-- 0x10 `STOP` (R240). -/
def execStop (_s : State) : Result := raise (.unimplementedInstruction "STOP")

/-- 0x17 `RLA` (R233). -/
def execRla (_s : State) : Result := raise (.unimplementedInstruction "RLA")

/-- 0x1F `RRA` (R234). -/
def execRra (_s : State) : Result := raise (.unimplementedInstruction "RRA")

/-- 0x27 `DAA` (R235). -/
def execDaa (_s : State) : Result := raise (.unimplementedInstruction "DAA")

/-- 0x2F `CPL` (R236). -/
def execCpl (_s : State) : Result := raise (.unimplementedInstruction "CPL")

/-- 0x37 `SCF` (R237). -/
def execScf (_s : State) : Result := raise (.unimplementedInstruction "SCF")

/-- 0x3F `CCF` (R238). -/
def execCcf (_s : State) : Result := raise (.unimplementedInstruction "CCF")

/-- 0xE0 `LDH (a8),A` (R241). -/
def execLdh_ma8_A (_s : State) : Result := raise (.unimplementedInstruction "LDH (a8),A")

/-- 0xE2 `LD (C),A` (R243). -/
def execLd_mC_A (_s : State) : Result := raise (.unimplementedInstruction "LD (C),A")

/-- 0xE8 `ADD SP,r8` (R247). -/
def execAdd_SP_r8 (_s : State) : Result := raise (.unimplementedInstruction "ADD SP,r8")

/-- 0xE9 `JP (HL)` (R249). -/
def execJp_mHL (_s : State) : Result := raise (.unimplementedInstruction "JP (HL)")

/-- 0xEA `LD (a16),A` (R245). -/
def execLd_ma16_A (_s : State) : Result := raise (.unimplementedInstruction "LD (a16),A")

/-- 0xF0 `LDH A,(a8)` (R242). -/
def execLdh_A_ma8 (_s : State) : Result := raise (.unimplementedInstruction "LDH A,(a8)")

/-- 0xF2 `LD A,(C)` (R244). -/
def execLd_A_mC (_s : State) : Result := raise (.unimplementedInstruction "LD A,(C)")

/-- 0xF3 `DI` (R251). -/
def execDi (_s : State) : Result := raise (.unimplementedInstruction "DI")

/-- 0xF8 `LD HL,SP+r8` (R248). -/
def execLd_HL_SPr8 (_s : State) : Result := raise (.unimplementedInstruction "LD HL,SP+r8")

/-- 0xF9 `LD SP,HL` (R250). -/
def execLd_SP_HL (_s : State) : Result := raise (.unimplementedInstruction "LD SP,HL")

/-- 0xFA `LD A,(a16)` (R246). -/
def execLd_A_ma16 (_s : State) : Result := raise (.unimplementedInstruction "LD A,(a16)")

/-- 0xFB `EI` (R252). -/
def execEi (_s : State) : Result := raise (.unimplementedInstruction "EI")

/-- 0xD3, no meaning (R260). -/
def execUnsupported_D3 (_s : State) : Result := raise (.unsupportedOpcode 0xD3#8)

/-- 0xDB, no meaning (R260). -/
def execUnsupported_DB (_s : State) : Result := raise (.unsupportedOpcode 0xDB#8)

/-- 0xDD, no meaning (R260). -/
def execUnsupported_DD (_s : State) : Result := raise (.unsupportedOpcode 0xDD#8)

/-- 0xE3, no meaning (R260). -/
def execUnsupported_E3 (_s : State) : Result := raise (.unsupportedOpcode 0xE3#8)

/-- 0xE4, no meaning (R260). -/
def execUnsupported_E4 (_s : State) : Result := raise (.unsupportedOpcode 0xE4#8)

/-- 0xEB, no meaning (R260). -/
def execUnsupported_EB (_s : State) : Result := raise (.unsupportedOpcode 0xEB#8)

/-- 0xEC, no meaning (R260). -/
def execUnsupported_EC (_s : State) : Result := raise (.unsupportedOpcode 0xEC#8)

/-- 0xED, no meaning (R260). -/
def execUnsupported_ED (_s : State) : Result := raise (.unsupportedOpcode 0xED#8)

/-- 0xF4, no meaning (R260). -/
def execUnsupported_F4 (_s : State) : Result := raise (.unsupportedOpcode 0xF4#8)

/-- 0xFC, no meaning (R260). -/
def execUnsupported_FC (_s : State) : Result := raise (.unsupportedOpcode 0xFC#8)

/-- 0xFD, no meaning (R260). -/
def execUnsupported_FD (_s : State) : Result := raise (.unsupportedOpcode 0xFD#8)

end Sys2Proof.Machine
end

