-- ==== Sys2Proof/Machine/Wide16.lean ====
section
/-! DEFINITION. 16-bit loads and arithmetic, push and pop (43_wide16.md). -/

namespace Sys2Proof.Machine

/-- `LD rr,d16` (R150). -/
def load16 (r : R16) (s : State) : Result := andThen (fetch16 s) fun x => .next (writeR16 r x.1 x.2)

/-- `INC rr` (R151): no flag. -/
def increment16 (r : R16) (s : State) : Result := .next (writeR16 r (readR16 r s + 1#16) s)

/-- `DEC rr` (R152): no flag. -/
def decrement16 (r : R16) (s : State) : Result := .next (writeR16 r (readR16 r s + 65535#16) s)

/-- `ADD HL,rr` (R153). -/
def addHL (r : R16) (s : State) : Result :=
  let x := addHLResult s.hl (readR16 r s) s.flags
  .next ((s.setHL x.1).setFlags x.2)

/-- `PUSH rr` (R154). -/
def pushPair (r : R16S) (s : State) : Result := push16 (readR16S r s) s

/-- `POP rr` (R155). -/
def popPair (r : R16S) (s : State) : Result := andThen (pop16 s) fun x => .next (writeR16S r x.1 x.2)

/-- 0x01 `LD BC,d16` (R150). -/
def execLd_BC_d16 (s : State) : Result := load16 .bc s

/-- 0x11 `LD DE,d16` (R150). -/
def execLd_DE_d16 (s : State) : Result := load16 .de s

/-- 0x21 `LD HL,d16` (R150). -/
def execLd_HL_d16 (s : State) : Result := load16 .hl s

/-- 0x31 `LD SP,d16` (R150). -/
def execLd_SP_d16 (s : State) : Result := load16 .sp s

/-- 0x03 `INC BC` (R151). -/
def execInc_BC (s : State) : Result := increment16 .bc s

/-- 0x13 `INC DE` (R151). -/
def execInc_DE (s : State) : Result := increment16 .de s

/-- 0x23 `INC HL` (R151). -/
def execInc_HL (s : State) : Result := increment16 .hl s

/-- 0x33 `INC SP` (R151). -/
def execInc_SP (s : State) : Result := increment16 .sp s

/-- 0x0B `DEC BC` (R152). -/
def execDec_BC (s : State) : Result := decrement16 .bc s

/-- 0x1B `DEC DE` (R152). -/
def execDec_DE (s : State) : Result := decrement16 .de s

/-- 0x2B `DEC HL` (R152). -/
def execDec_HL (s : State) : Result := decrement16 .hl s

/-- 0x3B `DEC SP` (R152). -/
def execDec_SP (s : State) : Result := decrement16 .sp s

/-- 0x09 `ADD HL,BC` (R153). -/
def execAdd_HL_BC (s : State) : Result := addHL .bc s

/-- 0x19 `ADD HL,DE` (R153). -/
def execAdd_HL_DE (s : State) : Result := addHL .de s

/-- 0x29 `ADD HL,HL` (R153). -/
def execAdd_HL_HL (s : State) : Result := addHL .hl s

/-- 0x39 `ADD HL,SP` (R153). -/
def execAdd_HL_SP (s : State) : Result := addHL .sp s

/-- 0xC5 `PUSH BC` (R154). -/
def execPush_BC (s : State) : Result := pushPair .bc s

/-- 0xD5 `PUSH DE` (R154). -/
def execPush_DE (s : State) : Result := pushPair .de s

/-- 0xE5 `PUSH HL` (R154). -/
def execPush_HL (s : State) : Result := pushPair .hl s

/-- 0xF5 `PUSH AF` (R154). -/
def execPush_AF (s : State) : Result := pushPair .af s

/-- 0xC1 `POP BC` (R155). -/
def execPop_BC (s : State) : Result := popPair .bc s

/-- 0xD1 `POP DE` (R155). -/
def execPop_DE (s : State) : Result := popPair .de s

/-- 0xE1 `POP HL` (R155). -/
def execPop_HL (s : State) : Result := popPair .hl s

/-- 0xF1 `POP AF` (R155). -/
def execPop_AF (s : State) : Result := popPair .af s

end Sys2Proof.Machine
end

