-- ==== Sys2Proof/Machine/Scheduler.lean ====
section
/-! DEFINITION. The Timing Scheduler (60_exceptions.md R280, R281; 70_reset_and_hazards.md R310 to R312) and the bit
`taken` it reads (40_step.md R93). It writes `cyc` and the scanline byte and nothing else (40_step.md R94). -/

namespace Sys2Proof.Machine

/-- The condition of a conditional instruction; none for every other (40_step.md R93). -/
def condOf (i : Instr) : Option Cond :=
  match i.kind with
  | .jpcc cc | .jrcc cc | .callcc cc | .retcc cc => some cc
  | .nop | .halt | .ld8 _ _ | .ldi8 _ | .sta _ | .lda _ | .alu _ _ | .aluImm _ | .inc8 _ | .dec8 _
  | .ld16 _ | .inc16 _ | .dec16 _ | .addHL _ | .push _ | .pop _
  | .jp | .jr | .call | .ret | .reti | .rst _ | .escape | .ext _ | .unimpl _ _ _ | .unsupported _ => none

/-- `taken`, local to one step (40_step.md R93): `Cond(cc)` for a conditional instruction, 0 for every other. It is
evaluated on the flags the instruction tests (log 11). -/
def takenBy (i : Instr) (s : State) : Bool :=
  match condOf i with
  | some cc => condHolds cc s.flags
  | none => false

/-- `Cost(op, taken)` on the entry `COST[op]` (70_reset_and_hazards.md R310). An empty entry is "not reached", since the
step of such a byte fails before accounting; it counts 0 (log 10). -/
def costOf (entry : CostEntry) (taken : Bool) : Nat :=
  match entry with
  | .flat n => n
  | .branch t nt => if taken then t else nt
  | .empty => 0

/-- The scanline byte after an advance (60_exceptions.md R281): plus 1 modulo 256, or 0 once that exceeds
`SCANLINE_MAX`. -/
def nextScanline (cfg : Config) (y : Byte) : Byte :=
  if (y + 1#8).toNat > cfg.scanlineMax then 0x00#8 else y + 1#8

/-- `advance_scanline()` (60_exceptions.md R281): the byte is read from memory, not from a private copy. -/
def advanceScanline (cfg : Config) (s : State) : State :=
  s.setByte cfg.scanlineAddr (nextScanline cfg (s.byteAt cfg.scanlineAddr))

/-- `account(n)` (60_exceptions.md R280): the excess over the threshold is dropped, and at most one advance happens. -/
def account (cfg : Config) (n : Nat) (s : State) : State :=
  if s.cyc + n ≥ cfg.cyclesPerScanline then advanceScanline cfg (s.setCyc 0) else s.setCyc (s.cyc + n)

end Sys2Proof.Machine
end

