-- ==== Sys2Proof/Machine/Step.lean ====
section
/-! DEFINITION. The step: fetch, decode, execute, account (40_step.md R90). -/

namespace Sys2Proof.Machine

/-- `step()` under any configuration (40_step.md R90). A failure of the execution is the step's answer: nothing of the
step is kept and no cost is charged (60_exceptions.md R275). -/
def stepWith (cfg : Config) (s : State) : Host.Outcome State Fault Refusal :=
  andThen (exec (decodePrimary (fetch8 s).1) (fetch8 s).2) fun t =>
    .next (account cfg (costOf (cfg.cost (fetch8 s).1) (takenBy (decodePrimary (fetch8 s).1) (fetch8 s).2)) t)

/-- `step()` (40_step.md R90) with the default parameters of 00_scope.md R5. -/
def step (s : State) : Host.Outcome State Fault Refusal := stepWith defaultConfig s

/-- Store bytes at consecutive addresses, modulo 65536. -/
def State.placeBytes (s : State) (addr : Word) : List Byte → State
  | [] => s
  | b :: bs => (s.setByte addr b).placeBytes (addr + 1#16) bs

/-- `s` with the instruction whose bits are `w` stored where the next step fetches: at `pc`, and zeros up to the longest
instruction. It stands for the boot image or the pre-fill that puts a program into memory (70_reset_and_hazards.md R300,
R305; log 8). -/
def State.withFetchWord (s : State) (nbits w : Nat) : State := s.placeBytes s.pc (tableBytes nbits w)

end Sys2Proof.Machine
end

