-- ==== Sys2Proof/Machine/Surface.lean ====
section
/-! DEFINITION. The memory surface toward external agents (00_scope.md R3, 20_memory.md R55), the construction with a
boot image (70_reset_and_hazards.md R300) and the pre-fill before the first step (R305). An external agent acts between
steps only; no step calls these (log 16). -/

namespace Sys2Proof.Machine

/-- An external 8-bit read: no effect on the core (20_memory.md R55). -/
def surfaceRead8 (addr : Word) (s : State) : Byte := s.byteAt addr

/-- An external 8-bit write between steps (20_memory.md R55). -/
def surfaceWrite8 (addr : Word) (v : Byte) (s : State) : State := s.setByte addr v

/-- An external 16-bit read; at 0xFFFF the failure goes to that agent (20_memory.md R55, 60_exceptions.md R272). -/
def surfaceRead16 (addr : Word) (s : State) : Host.Outcome Word Fault Refusal := s.wordAt addr

/-- An external 16-bit write between steps; at 0xFFFF the failure goes to that agent (20_memory.md R55). -/
def surfaceWrite16 (addr : Word) (v : Word) (s : State) : Result := s.setWord addr v

/-- Construction with a boot image, all other parameters at their defaults (70_reset_and_hazards.md R300). -/
def boot (image : List Byte) : State := State.resetWith { defaultConfig with bootImage := image }

/-- Pre-fill of further bytes between construction and the first step (70_reset_and_hazards.md R305). -/
def prefill (cells : List (Word × Byte)) (s : State) : State :=
  match cells with
  | [] => s
  | (addr, v) :: rest => prefill rest (surfaceWrite8 addr v s)

/-- What the renderer learns by re-reading the scanline byte: whether it is the blanking index (60_exceptions.md R283).
No rule of the core reads it. -/
def atBlankingLine (cfg : Config) (s : State) : Bool := (surfaceRead8 cfg.scanlineAddr s).toNat == cfg.blankingLine

end Sys2Proof.Machine
end

