-- ==== Sys2Proof/Safety.lean ====
section
/-! DEFINITION. What a safe run is, the invariant of the machine, and the terms in which claims say what an execution
leaves unchanged and where it fails. Nothing here runs: the meanings never call it. -/

namespace Sys2Proof.Machine

/-! ## Safe runs -/

/-- `n` steps succeed: a run is safe as long as no step fails (60_exceptions.md R276; 40_step.md R96). -/
def SafeFor (n : Nat) (s : State) : Prop := ∃ t, Sys2Proof.core.run n s = .next t

/-- The invariant between steps: memory is in its canonical form (every entry at one of the 65536 addresses of
20_memory.md R40), and `0 <= cyc < CYCLES_PER_SCANLINE` (10_state.md R25). -/
def Inv (cfg : Config) (s : State) : Prop := s.mem.wf = true ∧ s.cyc < cfg.cyclesPerScanline

/-! ## Frames -/

/-- Every cell outside the list is unchanged. -/
def KeepsCells (except : List Cell) (s t : State) : Prop := ∀ x, x ∉ except → t.cell x = s.cell x

/-- Every byte of memory outside the list of addresses reads as before. -/
def KeepsBytes (except : List Word) (s t : State) : Prop := ∀ a, a ∉ except → t.byteAt a = s.byteAt a

/-- SP and the cycle counter are unchanged. -/
def KeepsSPAndCyc (s t : State) : Prop := t.sp = s.sp ∧ t.cyc = s.cyc

/-- The frame of an instruction that moves neither SP nor control: outside the listed cells and bytes nothing changes,
the flags apart, and `pc` passes the `n` operand bytes. -/
def ChangesOnly (cells : List Cell) (bytes : List Word) (n : Nat) (s t : State) : Prop :=
  KeepsCells cells s t ∧ KeepsBytes bytes s t ∧ KeepsSPAndCyc s t ∧ t.pc = s.pc + BitVec.ofNat 16 n

/-- The cell an 8-bit destination operand writes: none for `(HL)`. -/
def destCells (i : R8) : List Cell :=
  match i with
  | .b => [.b]
  | .c => [.c]
  | .d => [.d]
  | .e => [.e]
  | .h => [.h]
  | .l => [.l]
  | .m => []
  | .a => [.a]

/-- The address an 8-bit destination operand stores to: HL for `(HL)`, none for a cell. -/
def destBytes (i : R8) (s : State) : List Word :=
  match i with
  | .m => [s.hl]
  | .b | .c | .d | .e | .h | .l | .a => []

/-- The cells a 16-bit destination operand writes: none for SP. -/
def destCells16 (r : R16) : List Cell :=
  match r with
  | .bc => [.b, .c]
  | .de => [.d, .e]
  | .hl => [.h, .l]
  | .sp => []

/-- The cells a pop writes. -/
def destCells16S (r : R16S) : List Cell :=
  match r with
  | .bc => [.b, .c]
  | .de => [.d, .e]
  | .hl => [.h, .l]
  | .af => [.a, .f]

/-- The cells the side effect of a memory view writes. -/
def viewCells (v : MemView) : List Cell :=
  match v with
  | .bc | .de => []
  | .hli | .hld => [.h, .l]

/-- The forms of a family (42_alu8.md R120): `i` is the instruction, `v` the value of its right operand at `s`, `n` the
number of operand bytes it fetches. -/
def AluForm (f : AluOp) (s : State) (i : Instr) (v : Byte) (n : Nat) : Prop :=
  (∃ z, i = aluInstr f z ∧ v = readR8 z s ∧ n = 0) ∨ (i = aluImmInstr f ∧ v = s.byteAt s.pc ∧ n = 1)

/-- The addresses an execution stores to, with `pc` past the opcode bytes (20_memory.md R47). For the escape, those of
the extended instruction its operand byte denotes. -/
def storedBytes (k : Kind) (s : State) : List Word :=
  match k with
  | .ld8 dst _ => destBytes dst s
  | .ldi8 dst => destBytes dst s
  | .sta v => [(readPair (memView v) s).1]
  | .inc8 dst => destBytes dst s
  | .dec8 dst => destBytes dst s
  | .push _ => [s.sp + 65534#16, s.sp + 65535#16]
  | .call => [s.sp + 65534#16, s.sp + 65535#16]
  | .callcc cc => if condHolds cc s.flags then [s.sp + 65534#16, s.sp + 65535#16] else []
  | .rst _ => [s.sp + 65534#16, s.sp + 65535#16]
  | .ext (.rot _ z) => destBytes z s
  | .ext (.bit _ _) => []
  | .ext (.res _ z) => destBytes z s
  | .ext (.set _ z) => destBytes z s
  | .escape =>
    match extFields (s.byteAt s.pc) with
    | .rot _ z => destBytes z s
    | .bit _ _ => []
    | .res _ z => destBytes z s
    | .set _ z => destBytes z s
  | .nop | .halt | .lda _ | .alu _ _ | .aluImm _ | .ld16 _ | .inc16 _ | .dec16 _ | .addHL _ | .pop _
  | .jp | .jpcc _ | .jr | .jrcc _ | .ret | .retcc _ | .reti | .unimpl _ _ _ | .unsupported _ => []

/-! ## Failures -/

/-- The condition of the table of 60_exceptions.md R272, with `pc` past the opcode byte: the execution makes a 16-bit
access at 0xFFFF. -/
def WordAccessFails (k : Kind) (s : State) : Prop :=
  match k with
  | .ld16 _ | .jp => s.pc = 0xFFFF#16
  | .jpcc cc => condHolds cc s.flags = true ∧ s.pc = 0xFFFF#16
  | .call => s.sp = 0x0001#16 ∨ s.pc = 0xFFFF#16
  | .callcc cc => condHolds cc s.flags = true ∧ (s.sp = 0x0001#16 ∨ s.pc = 0xFFFF#16)
  | .push _ | .rst _ => s.sp = 0x0001#16
  | .pop _ | .ret | .reti => s.sp = 0xFFFF#16
  | .retcc cc => condHolds cc s.flags = true ∧ s.sp = 0xFFFF#16
  | .nop | .halt | .ld8 _ _ | .ldi8 _ | .sta _ | .lda _ | .alu _ _ | .aluImm _ | .inc8 _ | .dec8 _
  | .inc16 _ | .dec16 _ | .addHL _ | .jr | .jrcc _ | .escape | .ext _ | .unimpl _ _ _ | .unsupported _ => False

/-- The instruction has no execution (46_unimplemented.md). -/
def HasNoExecution (k : Kind) : Prop :=
  match k with
  | .unimpl _ _ _ => True
  | .unsupported _ => True
  | .nop | .halt | .ld8 _ _ | .ldi8 _ | .sta _ | .lda _ | .alu _ _ | .aluImm _ | .inc8 _ | .dec8 _
  | .ld16 _ | .inc16 _ | .dec16 _ | .addHL _ | .push _ | .pop _
  | .jp | .jpcc _ | .jr | .jrcc _ | .call | .callcc _ | .ret | .retcc _ | .reti | .rst _ | .escape | .ext _ => False

/-- The instruction transfers control: it assigns `pc` after its fetches (10_state.md R23). -/
def TransfersControl (k : Kind) : Prop :=
  match k with
  | .jp | .jpcc _ | .jr | .jrcc _ | .call | .callcc _ | .ret | .retcc _ | .reti | .rst _ => True
  | .nop | .halt | .ld8 _ _ | .ldi8 _ | .sta _ | .lda _ | .alu _ _ | .aluImm _ | .inc8 _ | .dec8 _
  | .ld16 _ | .inc16 _ | .dec16 _ | .addHL _ | .push _ | .pop _ | .escape | .ext _
  | .unimpl _ _ _ | .unsupported _ => False

/-- The instruction writes some flag (10_state.md R19, the summary of flag writers). The escape stands for the extended
instruction its operand byte denotes. -/
def WritesFlags (k : Kind) : Prop :=
  match k with
  | .alu _ _ | .aluImm _ | .inc8 _ | .dec8 _ | .addHL _ | .escape => True
  | .ext (.rot _ _) | .ext (.bit _ _) => True
  | .ext (.res _ _) | .ext (.set _ _) => False
  | .nop | .halt | .ld8 _ _ | .ldi8 _ | .sta _ | .lda _ | .ld16 _ | .inc16 _ | .dec16 _ | .push _ | .pop _
  | .jp | .jpcc _ | .jr | .jrcc _ | .call | .callcc _ | .ret | .retcc _ | .reti | .rst _
  | .unimpl _ _ _ | .unsupported _ => False

/-- The instruction writes SP (10_state.md R14). -/
def WritesSP (k : Kind) : Prop :=
  match k with
  | .ld16 .sp | .inc16 .sp | .dec16 .sp => True
  | .push _ | .pop _ | .call | .callcc _ | .ret | .retcc _ | .reti | .rst _ => True
  | .ld16 _ | .inc16 _ | .dec16 _ => False
  | .nop | .halt | .ld8 _ _ | .ldi8 _ | .sta _ | .lda _ | .alu _ _ | .aluImm _ | .inc8 _ | .dec8 _ | .addHL _
  | .jp | .jpcc _ | .jr | .jrcc _ | .escape | .ext _ | .unimpl _ _ _ | .unsupported _ => False

end Sys2Proof.Machine
end

