-- ==== Sys2Proof/Certificates/Slice0/Obligations.lean ====
section
/-! DEFINITION. The statements for the provers, in the order of the spec's files. `exec` runs an instruction in a state
whose `pc` already addresses the byte after the opcode bytes (40_step.md R90). Where a statement rests on a decision of
92_eei_decisions.md its docstring names it: such a value is the spec's choice, not the source's (log 1). -/

open Sys2Proof Sys2Proof.Machine

/-! ## Registers, views, conditions (10_state.md) -/

/-- 10_state.md R10: a cell holds what was last written to it, and a write to one cell changes nothing else. That a write
to F leaves the flags alone is decision D2 (R11; log 15). -/
def Obligations.CellIndependence : Prop :=
  ∀ (s : State) (x : Cell) (v : Byte),
    (s.setCell x v).cell x = v ∧ KeepsCells [x] s (s.setCell x v) ∧ KeepsBytes [] s (s.setCell x v) ∧
    KeepsSPAndCyc s (s.setCell x v) ∧ (s.setCell x v).pc = s.pc ∧ (s.setCell x v).flags = s.flags

/-- 10_state.md R15: the four plain views, high byte first, with no storage of their own and no side effect. That a write
of AF leaves the flags alone is decision D2 (R11; log 15). -/
def Obligations.PlainViews : Prop :=
  ∀ (s : State) (v : Word) (p : PairView) (hi lo : Cell),
    (p, hi, lo) ∈ [(PairView.af, Cell.a, Cell.f), (.bc, .b, .c), (.de, .d, .e), (.hl, .h, .l)] →
    ((readPair p s).1.toNat = 256 * (s.cell hi).toNat + (s.cell lo).toNat ∧ (readPair p s).2 = s) ∧
    (((writePair p v s).cell hi).toNat = v.toNat / 256 ∧ ((writePair p v s).cell lo).toNat = v.toNat % 256 ∧
      KeepsCells [hi, lo] s (writePair p v s) ∧ (writePair p v s).mem = s.mem ∧ KeepsSPAndCyc s (writePair p v s) ∧
      (writePair p v s).pc = s.pc ∧ (writePair p v s).flags = s.flags)

/-- 10_state.md R16, R17: a read of HLI (HLD) answers the old HL and leaves HL plus (minus) 1 modulo 65536; a write of
`w` leaves `w` plus (minus) 1 in HL; only H and L change. -/
def Obligations.AutoModifyingViews : Prop :=
  ∀ (s : State) (w : Word) (p : PairView) (d : Nat), (p, d) ∈ [(PairView.hli, 1), (.hld, 65535)] →
    ((readPair p s).1.toNat = 256 * s.h.toNat + s.l.toNat ∧
      (256 * (readPair p s).2.h.toNat + (readPair p s).2.l.toNat) = (256 * s.h.toNat + s.l.toNat + d) % 65536 ∧
      (256 * (writePair p w s).h.toNat + (writePair p w s).l.toNat) = (w.toNat + d) % 65536) ∧
    ∀ t, t ∈ [(readPair p s).2, writePair p w s] →
      KeepsCells [.h, .l] s t ∧ t.mem = s.mem ∧ KeepsSPAndCyc s t ∧ t.pc = s.pc ∧ t.flags = s.flags

/-- 10_state.md R20: the branch-condition evaluator, by condition index. It reads Z and C only. -/
def Obligations.ConditionTable : Prop :=
  ∀ fl : Flags,
    (condHolds (Cond.ofIndex 0#2) fl = true ↔ fl.z = false) ∧ (condHolds (Cond.ofIndex 1#2) fl = true ↔ fl.z = true) ∧
    (condHolds (Cond.ofIndex 2#2) fl = true ↔ fl.c = false) ∧ (condHolds (Cond.ofIndex 3#2) fl = true ↔ fl.c = true) ∧
    ∀ (cc : Cond) (n h : Bool), condHolds cc { fl with n := n, h := h } = condHolds cc fl

/-! ## Memory (20_memory.md) -/

/-- 20_memory.md R42, R43: a byte read answers the byte last stored, and a byte store changes no other byte and nothing
outside memory. Neither can fail: the operations answer a byte and a state. -/
def Obligations.ByteAccess : Prop :=
  ∀ (s : State) (addr : Word) (v : Byte),
    (s.setByte addr v).byteAt addr = v ∧ KeepsBytes [addr] s (s.setByte addr v) ∧ KeepsCells [] s (s.setByte addr v) ∧
    KeepsSPAndCyc s (s.setByte addr v) ∧ (s.setByte addr v).pc = s.pc ∧ (s.setByte addr v).flags = s.flags

/-- 20_memory.md R44: 16-bit accesses are little-endian, and a 16-bit store changes its two bytes only. -/
def Obligations.WordAccessLittleEndian : Prop :=
  ∀ (s : State) (addr v : Word), addr.toNat < 0xFFFF →
    (∃ w, s.wordAt addr = .next w ∧
      w.toNat = 256 * (s.byteAt (addr + 1#16)).toNat + (s.byteAt addr).toNat) ∧
    (∃ t, s.setWord addr v = .next t ∧ (t.byteAt addr).toNat = v.toNat % 256 ∧
      (t.byteAt (addr + 1#16)).toNat = v.toNat / 256 ∧ KeepsBytes [addr, addr + 1#16] s t ∧ KeepsCells [] s t ∧
      KeepsSPAndCyc s t ∧ t.pc = s.pc ∧ t.flags = s.flags)

/-- 20_memory.md R45 (the spec's decision D19): a 16-bit access fails exactly at 0xFFFF, and so do the operations that
reach one: `Fetch16`, `Push16` and `Pop16`. -/
def Obligations.WordAccessFailsAtTop : Prop :=
  ∀ (s : State) (addr v : Word) (r : Fault),
    (s.wordAt addr = .fault r ↔ addr = 0xFFFF#16 ∧ r = .addressOutOfRange 0xFFFF#16) ∧
    (s.setWord addr v = .fault r ↔ addr = 0xFFFF#16 ∧ r = .addressOutOfRange 0xFFFF#16) ∧
    (fetch16 s = .fault r ↔ s.pc = 0xFFFF#16 ∧ r = .addressOutOfRange 0xFFFF#16) ∧
    (push16 v s = .fault r ↔ s.sp = 0x0001#16 ∧ r = .addressOutOfRange 0xFFFF#16) ∧
    (pop16 s = .fault r ↔ s.sp = 0xFFFF#16 ∧ r = .addressOutOfRange 0xFFFF#16)

/-- 20_memory.md R55 (the spec's decision D26; log 16): what an external agent may do between steps. A write of its own
changes memory only, a 16-bit access at 0xFFFF fails to that agent, and a read answers what the core would read. -/
def Obligations.ExternalSurface : Prop :=
  ∀ (s : State) (addr v : Word) (b : Byte),
    surfaceRead8 addr (surfaceWrite8 addr b s) = b ∧ KeepsBytes [addr] s (surfaceWrite8 addr b s) ∧
    KeepsCells [] s (surfaceWrite8 addr b s) ∧ KeepsSPAndCyc s (surfaceWrite8 addr b s) ∧
    (surfaceWrite8 addr b s).pc = s.pc ∧ (surfaceWrite8 addr b s).flags = s.flags ∧
    (addr.toNat < 0xFFFF → ∃ t, surfaceWrite16 addr v s = .next t ∧ surfaceRead16 addr t = .next v ∧
      KeepsBytes [addr, addr + 1#16] s t ∧ KeepsCells [] s t ∧ KeepsSPAndCyc s t ∧ t.pc = s.pc ∧ t.flags = s.flags) ∧
    surfaceRead16 0xFFFF#16 s = .fault (.addressOutOfRange 0xFFFF#16) ∧
    surfaceWrite16 0xFFFF#16 v s = .fault (.addressOutOfRange 0xFFFF#16)

/-! ## Encoding (30_encoding.md) -/

/-- Words written out from 30_encoding.md R70 and R73 (the opcode values are decisions D4, D5) decode to the
instructions the worked examples of 41_load8.md to 46_unimplemented.md name, and leave the operand bytes. -/
def Obligations.SampleWordsDecode : Prop :=
  decode [0b00000000#8] = some (.nop, []) ∧ decode [0b01110110#8] = some (.halt, []) ∧
  decode [0b01000001#8] = some (.ld_B_C, []) ∧ decode [0b01111110#8] = some (.ld_A_mHL, []) ∧
  decode [0b01110000#8] = some (.ld_mHL_B, []) ∧ decode [0b00111110#8, 0x05#8] = some (.ld_A_d8, [0x05#8]) ∧
  decode [0b00110110#8, 0xAB#8] = some (.ld_mHL_d8, [0xAB#8]) ∧ decode [0b00100010#8] = some (.ld_mHLI_A, []) ∧
  decode [0b00111010#8] = some (.ld_A_mHLD, []) ∧ decode [0b10000000#8] = some (.add_A_B, []) ∧
  decode [0b10011000#8] = some (.sbc_A_B, []) ∧ decode [0b11111110#8, 0x40#8] = some (.cp_d8, [0x40#8]) ∧
  decode [0b00110100#8] = some (.inc_mHL, []) ∧
  decode [0b00100001#8, 0x00#8, 0xC0#8] = some (.ld_HL_d16, [0x00#8, 0xC0#8]) ∧
  decode [0b00001001#8] = some (.add_HL_BC, []) ∧ decode [0b11110101#8] = some (.push_AF, []) ∧
  decode [0b11010001#8] = some (.pop_DE, []) ∧
  decode [0b11000011#8, 0x50#8, 0x01#8] = some (.jp_a16, [0x50#8, 0x01#8]) ∧
  decode [0b00100000#8, 0xFC#8] = some (.jr_NZ_r8, [0xFC#8]) ∧
  decode [0b11011100#8, 0x34#8, 0x12#8] = some (.call_C_a16, [0x34#8, 0x12#8]) ∧
  decode [0b11001000#8] = some (.ret_Z, []) ∧ decode [0b11101111#8] = some (.rst_28H, []) ∧
  decode [0b11001011#8, 0b00111110#8] = some (.srl_mHL, []) ∧
  decode [0b11001011#8, 0b01111100#8] = some (.bit_7_H, []) ∧
  decode [0b11001011#8, 0b11001011#8] = some (.set_1_E, []) ∧
  decode [0b00100111#8] = some (.daa, []) ∧ decode [0b11010011#8] = some (.unsupported_D3, [])

/-- Decode and encode agree on every well-formed instruction of both tables, whatever bytes follow (30_encoding.md R60,
R70 to R73, R77; decisions D4, D5). -/
def Obligations.DecodeOfEncode : Prop :=
  ∀ (i : Instr) (rest : List Byte), i.wellFormed = true → decode (encode i ++ rest) = some (i, rest)

/-- Whatever bytes decode are the encoding of what they decode to, followed by the bytes left: no two byte sequences
share an instruction and its rest (30_encoding.md R60, R72, R77). -/
def Obligations.EncodeOfDecode : Prop :=
  ∀ (bytes rest : List Byte) (i : Instr), decode bytes = some (i, rest) → encode i ++ rest = bytes

/-- Decoder totality (30_encoding.md R76; the counts are decisions D12, D13): every primary byte decodes, to the
instruction whose opcode byte it is; 22 of the bytes are decoded but unimplemented, 11 are unsupported markers; every
extended byte decodes to an executable instruction; the decoder refuses nothing but the empty sequence and a lone
escape. -/
def Obligations.DecoderTotality : Prop :=
  (∀ op : Byte, encode (decodePrimary op) = [op]) ∧ (∀ e : Byte, encode (decodeExtended e) = [escapeByte, e]) ∧
  (∀ e : Byte, ¬ HasNoExecution (decodeExtended e).kind) ∧
  (∀ bytes, decode bytes = none ↔ bytes = [] ∨ bytes = [escapeByte]) ∧
  (((List.range 256).map (BitVec.ofNat 8)).countP fun op =>
    match (decodePrimary op).kind with | .unimpl _ _ _ => true | _ => false) = 22 ∧
  (((List.range 256).map (BitVec.ofNat 8)).countP fun op =>
    match (decodePrimary op).kind with | .unsupported _ => true | _ => false) = 11

/-! ## The step (40_step.md) -/

/-- 40_step.md R90: the step is fetch, decode, execute, account. Where the bytes at `pc` decode to a well-formed
instruction `i`, the step is `exec i` with `pc` past its opcode bytes, then the scheduler with `Cost(op, taken)`; a
failure of `exec` is the whole answer. Where the opcode byte is an unsupported one (30_encoding.md R74; which bytes:
decision D13; log 3, 22), the step raises. -/
def Obligations.StepRunsDecoded : Prop :=
  (∀ (cfg : Config) (s : State) (i : Instr) (rest : List Byte),
    decode [s.byteAt s.pc, s.byteAt (s.pc + 1#16)] = some (i, rest) → i.wellFormed = true →
    stepWith cfg s =
      match exec i (s.advance (encode i).length) with
      | .next t => .next (account cfg (costOf (cfg.cost (s.byteAt s.pc)) (takenBy i s)) t)
      | .fault r => .fault r
      | .refused r => .refused r) ∧
  (∀ (cfg : Config) (s : State),
    s.byteAt s.pc ∈ [0xD3#8, 0xDB#8, 0xDD#8, 0xE3#8, 0xE4#8, 0xEB#8, 0xEC#8, 0xED#8, 0xF4#8, 0xFC#8, 0xFD#8] →
    stepWith cfg s = .fault (.unsupportedOpcode (s.byteAt s.pc))) ∧
  ∀ s : State, step s = stepWith defaultConfig s

/-- 40_step.md R91, R92 (the modulo is decision D18): what the fetch helpers answer and where they leave `pc`. -/
def Obligations.FetchHelpers : Prop :=
  ∀ s : State,
    (fetch8 s).1 = s.byteAt s.pc ∧ (fetch8 s).2 = s.setPC (fetch8 s).2.pc ∧
    (fetch8 s).2.pc.toNat = (s.pc.toNat + 1) % 65536 ∧
    (s.pc ≠ 0xFFFF#16 → ∃ v t, fetch16 s = .next (v, t) ∧ t = s.setPC t.pc ∧ t.pc.toNat = (s.pc.toNat + 2) % 65536 ∧
      v.toNat = 256 * (s.byteAt (s.pc + 1#16)).toNat + (s.byteAt s.pc).toNat)

/-- 40_step.md R93: `taken` is `Cond(cc)` for the four conditional families and 0 for every other instruction, and
evaluating it after the instruction gives the same bool. -/
def Obligations.TakenBit : Prop :=
  (∀ (cc : Cond) (i : Instr) (s : State), i ∈ [jrccInstr cc, jpccInstr cc, callccInstr cc, retccInstr cc] →
    takenBy i s = condHolds cc s.flags) ∧
  (∀ (i : Instr) (s : State),
    (∀ cc, i ∉ [jrccInstr cc, jpccInstr cc, callccInstr cc, retccInstr cc]) → takenBy i s = false) ∧
  ∀ (i : Instr) (s t : State), exec i s = .next t → takenBy i t = takenBy i s

/-- 40_step.md R94: the interpreter never changes `cyc`, and neither what it does nor what it fails with depends on it;
the scheduler writes `cyc` and the scanline byte, and never a cell, SP, `pc` or a flag. The decoder is a function of
bytes alone and the scheduler's cost of the opcode byte and `taken` alone, by their types. -/
def Obligations.StepDataFlow : Prop :=
  (∀ (i : Instr) (s t : State), exec i s = .next t →
    t.cyc = s.cyc ∧ ∀ n, exec i (s.setCyc n) = .next (t.setCyc n)) ∧
  (∀ (i : Instr) (s : State) (r : Fault) (n : Nat), exec i s = .fault r → exec i (s.setCyc n) = .fault r) ∧
  ∀ (cfg : Config) (n : Nat) (s : State),
    KeepsCells [] s (account cfg n s) ∧ KeepsBytes [cfg.scanlineAddr] s (account cfg n s) ∧
    (account cfg n s).sp = s.sp ∧ (account cfg n s).pc = s.pc ∧ (account cfg n s).flags = s.flags

/-! ## 8-bit loads (41_load8.md) -/

/-- 41_load8.md R100 to R102, R105 (no flag: decision D7): the 63 loads between indexed operands complete in every
state; the destination holds what the source held, and nothing else changes. -/
def Obligations.LoadOperand : Prop :=
  ∀ (dst src : R8) (s : State), dst ≠ .m ∨ src ≠ .m →
    ∃ t, exec (ldInstr dst src) s = .next t ∧ readR8 dst t = readR8 src s ∧ t.flags = s.flags ∧
      ChangesOnly (destCells dst) (destBytes dst s) 0 s t

/-- 41_load8.md R103, R104, R105 (no flag: decision D7): the eight immediate loads complete in every state; the
destination holds the byte after the opcode, and nothing else changes. -/
def Obligations.LoadImmediate : Prop :=
  ∀ (dst : R8) (s : State),
    ∃ t, exec (ldImmInstr dst) s = .next t ∧ readR8 dst t = s.byteAt s.pc ∧ t.flags = s.flags ∧
      ChangesOnly (destCells dst) (destBytes dst s) 1 s t

/-- 41_load8.md R106 to R109 (the members and opcodes: decisions D4, D25): the four accumulator stores complete in every
state, store A at the address the view delivers, and move HL by the view's side effect only. -/
def Obligations.AccumulatorStores : Prop :=
  ∀ (v : MemView) (d : Nat) (s : State), (v, d) ∈ [(MemView.bc, 0), (.de, 0), (.hli, 1), (.hld, 65535)] →
    ∃ t, exec (staInstr v) s = .next t ∧ t.byteAt (readPair (memView v) s).1 = s.a ∧
      t.hl.toNat = (s.hl.toNat + d) % 65536 ∧
      t.flags = s.flags ∧ ChangesOnly (viewCells v) [(readPair (memView v) s).1] 0 s t

/-- 41_load8.md R110 to R113 (the members and opcodes: decisions D4, D25): the four accumulator loads complete in every
state, load A from the address the view delivers, and move HL by the view's side effect only. -/
def Obligations.AccumulatorLoads : Prop :=
  ∀ (v : MemView) (d : Nat) (s : State), (v, d) ∈ [(MemView.bc, 0), (.de, 0), (.hli, 1), (.hld, 65535)] →
    ∃ t, exec (ldaInstr v) s = .next t ∧ t.a = s.byteAt (readPair (memView v) s).1 ∧
      t.hl.toNat = (s.hl.toNat + d) % 65536 ∧
      t.flags = s.flags ∧ ChangesOnly (.a :: viewCells v) [] 0 s t

/-! ## 8-bit arithmetic and logic (42_alu8.md) -/

/-- 42_alu8.md R121 to R123 (N: decision D8; the carry in the half-carry: decision D9): every form of `ADD` and `ADC`
completes in every state, with the sum modulo 256 in A and the four flags from the operation. -/
def Obligations.AddAndAdc : Prop :=
  ∀ (f : AluOp) (s : State) (i : Instr) (v : Byte) (n cin : Nat), AluForm f s i v n →
    (f, cin) ∈ [(AluOp.add, 0), (.adc, s.flags.c.toNat)] →
    ∃ t, exec i s = .next t ∧ t.a.toNat = (s.a.toNat + v.toNat + cin) % 256 ∧
      t.flags = { z := decide (t.a = 0#8), n := false,
                  h := decide (s.a.toNat % 16 + v.toNat % 16 + cin > 15),
                  c := decide (s.a.toNat + v.toNat + cin > 255) } ∧
      ChangesOnly [.a] [] n s t

/-- 42_alu8.md R121, R124, R129 (N: decision D8): every form of `SUB` and `CP` completes in every state, with the same
four flags; `SUB` leaves the difference modulo 256 in A and `CP` leaves A as it was. -/
def Obligations.SubAndCompare : Prop :=
  ∀ (s : State) (i : Instr) (v : Byte) (n : Nat), AluForm .sub s i v n ∨ AluForm .cp s i v n →
    ∃ t, exec i s = .next t ∧ (AluForm .sub s i v n → t.a.toNat = (s.a.toNat + 256 - v.toNat) % 256) ∧
      (AluForm .cp s i v n → t.a = s.a) ∧
      t.flags = { z := decide (s.a = v), n := true, h := decide (s.a.toNat % 16 < v.toNat % 16),
                  c := decide (s.a.toNat < v.toNat) } ∧
      ChangesOnly [.a] [] n s t

/-- 42_alu8.md R125, in the closed form it derives (N: decision D8): every form of `SBC` completes in every state. -/
def Obligations.SubtractWithCarry : Prop :=
  ∀ (s : State) (i : Instr) (v : Byte) (n : Nat), AluForm .sbc s i v n →
    ∃ t, exec i s = .next t ∧ (t.a.toNat : Int) = (s.a.toNat - v.toNat - s.flags.c.toNat : Int) % 256 ∧
      t.flags = { z := decide (t.a = 0#8), n := true,
                  h := decide (s.a.toNat % 16 < v.toNat % 16 + s.flags.c.toNat),
                  c := decide (s.a.toNat < v.toNat + s.flags.c.toNat) } ∧
      ChangesOnly [.a] [] n s t

/-- 42_alu8.md R126 to R128 (the constants N, H, C: decision D8): every form of `AND`, `XOR`, `OR` completes in every
state; bit by bit, A is the conjunction, exclusive or, disjunction. -/
def Obligations.Logic : Prop :=
  ∀ (f : AluOp) (op : Bool → Bool → Bool) (h : Bool) (s : State) (i : Instr) (v : Byte) (n : Nat),
    (f = .and ∧ op = and ∧ h = true) ∨ (f = .xor ∧ op = xor ∧ h = false) ∨ (f = .or ∧ op = or ∧ h = false) →
    AluForm f s i v n →
    ∃ t, exec i s = .next t ∧ (∀ k, k < 8 → t.a.getLsbD k = op (s.a.getLsbD k) (v.getLsbD k)) ∧
      t.flags = { z := decide (t.a = 0#8), n := false, h := h, c := false } ∧ ChangesOnly [.a] [] n s t

/-- 42_alu8.md R130, R131 (N: decision D8): the eight byte increments and the eight byte decrements complete in every
state, modulo 256; C keeps its value. -/
def Obligations.IncrementDecrementByte : Prop :=
  ∀ (dst : R8) (i : Instr) (d low : Nat) (n : Bool) (s : State),
    (i, d, n, low) ∈ [(incInstr dst, 1, false, 15), (decInstr dst, 255, true, 0)] →
    ∃ t, exec i s = .next t ∧ (readR8 dst t).toNat = ((readR8 dst s).toNat + d) % 256 ∧
      t.flags = { z := decide (readR8 dst t = 0#8), n := n, h := decide ((readR8 dst s).toNat % 16 = low),
                  c := s.flags.c } ∧
      ChangesOnly (destCells dst) (destBytes dst s) 0 s t

/-! ## 16-bit instructions and the stack (43_wide16.md) -/

/-- 43_wide16.md R150 (no flag: decision D7): the four 16-bit immediate loads complete unless the operand starts at
0xFFFF; SP changes exactly when it is the destination. -/
def Obligations.LoadWordImmediate : Prop :=
  ∀ (r : R16) (s : State), s.pc ≠ 0xFFFF#16 →
    ∃ t, exec (ld16Instr r) s = .next t ∧
      (readR16 r t).toNat = 256 * (s.byteAt (s.pc + 1#16)).toNat + (s.byteAt s.pc).toNat ∧
      (r ≠ .sp → t.sp = s.sp) ∧ t.cyc = s.cyc ∧ t.flags = s.flags ∧ t.pc = s.pc + 2#16 ∧
      KeepsCells (destCells16 r) s t ∧ KeepsBytes [] s t

/-- 43_wide16.md R151, R152 (no flag: decision D10): the 16-bit increments and decrements complete in every state,
modulo 65536, and write no flag. -/
def Obligations.IncrementDecrementWord : Prop :=
  ∀ (r : R16) (i : Instr) (d : Nat) (s : State), (i, d) ∈ [(inc16Instr r, 1), (dec16Instr r, 65535)] →
    ∃ t, exec i s = .next t ∧ (readR16 r t).toNat = ((readR16 r s).toNat + d) % 65536 ∧
      (r ≠ .sp → t.sp = s.sp) ∧ t.cyc = s.cyc ∧ t.flags = s.flags ∧ t.pc = s.pc ∧
      KeepsCells (destCells16 r) s t ∧ KeepsBytes [] s t

/-- 43_wide16.md R153 (the flags: decision D11): the four `ADD HL,rr` complete in every state; Z keeps its value. -/
def Obligations.AddToHL : Prop :=
  ∀ (r : R16) (s : State),
    ∃ t, exec (addHLInstr r) s = .next t ∧ t.hl.toNat = (s.hl.toNat + (readR16 r s).toNat) % 65536 ∧
      t.flags = { z := s.flags.z, n := false, h := decide (s.hl.toNat % 4096 + (readR16 r s).toNat % 4096 > 4095),
                  c := decide (s.hl.toNat + (readR16 r s).toNat > 65535) } ∧
      ChangesOnly [.h, .l] [] 0 s t

/-- 43_wide16.md R154, R156 (the members: decision D6; modulo: D18): the four pushes complete unless SP is 0x0001; the
high cell lands at the higher address; `PUSH AF` stores the cells A and F. -/
def Obligations.PushPair : Prop :=
  ∀ (r : R16S) (hi lo : Cell) (s : State),
    (r, hi, lo) ∈ [(R16S.bc, Cell.b, Cell.c), (.de, .d, .e), (.hl, .h, .l), (.af, .a, .f)] → s.sp ≠ 0x0001#16 →
    ∃ t, exec (pushInstr r) s = .next t ∧ t.sp.toNat = (s.sp.toNat + 65534) % 65536 ∧ t.byteAt t.sp = s.cell lo ∧
      t.byteAt (t.sp + 1#16) = s.cell hi ∧ t.flags = s.flags ∧ t.cyc = s.cyc ∧ t.pc = s.pc ∧ KeepsCells [] s t ∧
      KeepsBytes [s.sp + 65534#16, s.sp + 65535#16] s t

/-- 43_wide16.md R155, R157 (the members: decision D6; modulo: D18): the four pops complete unless SP is 0xFFFF;
`POP AF` writes all of F and no flag. -/
def Obligations.PopPair : Prop :=
  ∀ (r : R16S) (hi lo : Cell) (s : State),
    (r, hi, lo) ∈ [(R16S.bc, Cell.b, Cell.c), (.de, .d, .e), (.hl, .h, .l), (.af, .a, .f)] → s.sp ≠ 0xFFFF#16 →
    ∃ t, exec (popInstr r) s = .next t ∧ t.cell lo = s.byteAt s.sp ∧ t.cell hi = s.byteAt (s.sp + 1#16) ∧
      t.sp.toNat = (s.sp.toNat + 2) % 65536 ∧ t.flags = s.flags ∧ t.cyc = s.cyc ∧ t.pc = s.pc ∧
      KeepsCells [hi, lo] s t ∧ KeepsBytes [] s t

/-- 43_wide16.md R155, the source's stack round-trip: a push then a pop of the same view gives back the value and the
stack pointer, and a pop of another view copies the pair. -/
def Obligations.PushPopRoundTrip : Prop :=
  ∀ (r r' : R16S) (s : State), s.sp ≠ 0x0001#16 →
    ∃ t u, exec (pushInstr r) s = .next t ∧ exec (popInstr r') t = .next u ∧ readR16S r' u = readR16S r s ∧
      u.sp = s.sp ∧ KeepsCells (destCells16S r') s u ∧ (r' = r → KeepsCells [] s u)

/-! ## Control transfer (44_control.md) -/

/-- 44_control.md R170, R171 (HALT: decision D14): `NOP` and `HALT` complete in every state and do nothing: there is no
halted state, and HALT does not touch the memory byte at HL. -/
def Obligations.NopAndHalt : Prop :=
  ∀ (i : Instr) (s : State), i ∈ [Instr.nop, .halt] → exec i s = .next s

/-- 44_control.md R172, R173 (the opcodes: decision D4): `JP a16`, and `JP cc,a16` whose condition holds, complete
unless the operand starts at 0xFFFF; they assign `pc` and nothing else. -/
def Obligations.JumpAbsolute : Prop :=
  ∀ (i : Instr) (s : State), i = .jp_a16 ∨ (∃ cc, i = jpccInstr cc ∧ condHolds cc s.flags = true) →
    s.pc ≠ 0xFFFF#16 →
    ∃ t, exec i s = .next t ∧ t.pc.toNat = 256 * (s.byteAt (s.pc + 1#16)).toNat + (s.byteAt s.pc).toNat ∧
      t = s.setPC t.pc

/-- 44_control.md R174, R175 (the opcodes: decision D4): `JR r8`, and `JR cc,r8` whose condition holds, complete in
every state; the displacement is signed and is added to the address of the next instruction, modulo 65536. -/
def Obligations.JumpRelative : Prop :=
  ∀ (i : Instr) (s : State), i = .jr_r8 ∨ (∃ cc, i = jrccInstr cc ∧ condHolds cc s.flags = true) →
    ∃ t, exec i s = .next t ∧ (t.pc.toNat : Int) = (s.pc.toNat + 1 + (s.byteAt s.pc).toInt) % 65536 ∧
      t = s.setPC t.pc

/-- 44_control.md R178, R179 (push before the target is read: decision D16): `CALL a16`, and `CALL cc,a16` whose
condition holds, complete unless SP is 0x0001 or the operand starts at 0xFFFF; the return address is that of the next
instruction, and the target is read from memory as it is after the push. -/
def Obligations.Call : Prop :=
  ∀ (i : Instr) (s : State), i = .call_a16 ∨ (∃ cc, i = callccInstr cc ∧ condHolds cc s.flags = true) →
    s.sp ≠ 0x0001#16 → s.pc ≠ 0xFFFF#16 →
    ∃ t, exec i s = .next t ∧ t.sp.toNat = (s.sp.toNat + 65534) % 65536 ∧
      256 * (t.byteAt (t.sp + 1#16)).toNat + (t.byteAt t.sp).toNat = (s.pc.toNat + 2) % 65536 ∧
      t.pc.toNat = 256 * (t.byteAt (s.pc + 1#16)).toNat + (t.byteAt s.pc).toNat ∧ t.flags = s.flags ∧ t.cyc = s.cyc ∧
      KeepsCells [] s t ∧ KeepsBytes [s.sp + 65534#16, s.sp + 65535#16] s t

/-- 44_control.md R180 to R182 (RETI is RET and writes no flag: decision D15): `RET`, `RETI`, and `RET cc` whose
condition holds, complete unless SP is 0xFFFF; they pop `pc` and change nothing else. -/
def Obligations.Return : Prop :=
  ∀ (i : Instr) (s : State), i ∈ [Instr.ret, .reti] ∨ (∃ cc, i = retccInstr cc ∧ condHolds cc s.flags = true) →
    s.sp ≠ 0xFFFF#16 →
    ∃ t, exec i s = .next t ∧ t.pc.toNat = 256 * (s.byteAt (s.sp + 1#16)).toNat + (s.byteAt s.sp).toNat ∧
      t.sp.toNat = (s.sp.toNat + 2) % 65536 ∧ t = (s.setSP t.sp).setPC t.pc

/-- 44_control.md R184 (the push and the kept flags: decision D15): the eight restarts complete unless SP is 0x0001;
they push the address of the next instruction and jump to 8 times the index. -/
def Obligations.Restart : Prop :=
  ∀ (x : BitVec 3) (s : State), s.sp ≠ 0x0001#16 →
    ∃ t, exec (rstInstr x) s = .next t ∧ t.pc.toNat = 8 * x.toNat ∧ t.sp.toNat = (s.sp.toNat + 65534) % 65536 ∧
      256 * (t.byteAt (t.sp + 1#16)).toNat + (t.byteAt t.sp).toNat = s.pc.toNat ∧ t.flags = s.flags ∧
      t.cyc = s.cyc ∧ KeepsCells [] s t ∧ KeepsBytes [s.sp + 65534#16, s.sp + 65535#16] s t

/-- 44_control.md R176 (that the operand is not read: decision D32): a conditional instruction whose condition does not
hold completes in every state, also where the operand would start at 0xFFFF or the stack access would fail; it passes
its operand bytes and does nothing else. -/
def Obligations.NotTakenSkips : Prop :=
  ∀ (cc : Cond) (i : Instr) (n : Nat) (s : State),
    (i, n) ∈ [(jrccInstr cc, 1), (jpccInstr cc, 2), (callccInstr cc, 2), (retccInstr cc, 0)] →
    condHolds cc s.flags = false →
    ∃ t, exec i s = .next t ∧ t.pc.toNat = (s.pc.toNat + n) % 65536 ∧ t = s.setPC t.pc

/-- 44_control.md R185: a call then a return, and a restart then a return, come back to the instruction after the call
and restore SP. -/
def Obligations.CallReturnRoundTrip : Prop :=
  ∀ (i r : Instr) (n : Nat) (s : State),
    (i = .call_a16 ∧ n = 2 ∧ s.pc ≠ 0xFFFF#16) ∨ (∃ x, i = rstInstr x ∧ n = 0) → r ∈ [Instr.ret, .reti] →
    s.sp ≠ 0x0001#16 →
    ∃ t u, exec i s = .next t ∧ exec r t = .next u ∧ u.pc.toNat = (s.pc.toNat + n) % 65536 ∧ u.sp = s.sp ∧
      u.flags = s.flags ∧ KeepsCells [] s u

/-! ## The extended table (45_extended.md) -/

/-- 45_extended.md R203 to R210 (the flags: decision D17), bit by bit: the 64 rotates, shifts and swaps complete in
every state. `v` is the operand before. -/
def Obligations.RotatesAndShifts : Prop :=
  ∀ (o : RotOp) (z : R8) (s : State) (v : Byte), v = readR8 z s →
    ∃ t, exec (rotInstr o z) s = .next t ∧
      (∀ k, k < 8 → (readR8 z t).getLsbD k =
        match o with
        | .rlc => v.getLsbD ((k + 7) % 8)
        | .rrc => v.getLsbD ((k + 1) % 8)
        | .rl => if k = 0 then s.flags.c else v.getLsbD (k - 1)
        | .rr => if k = 7 then s.flags.c else v.getLsbD (k + 1)
        | .sla => if k = 0 then false else v.getLsbD (k - 1)
        | .sra => if k = 7 then v.getLsbD 7 else v.getLsbD (k + 1)
        | .swap => v.getLsbD ((k + 4) % 8)
        | .srl => if k = 7 then false else v.getLsbD (k + 1)) ∧
      t.flags = { z := decide (readR8 z t = 0#8), n := false, h := false,
                  c := match o with
                    | .rlc | .rl | .sla => v.getLsbD 7
                    | .rrc | .rr | .sra | .srl => v.getLsbD 0
                    | .swap => false } ∧
      ChangesOnly (destCells z) (destBytes z s) 0 s t

/-- 45_extended.md R211 (the flags: decision D17): the 64 bit tests complete in every state; the operand is not written
and C keeps its value. -/
def Obligations.BitTest : Prop :=
  ∀ (b : BitVec 3) (z : R8) (s : State),
    ∃ t, exec (bitInstr b z) s = .next t ∧
      t.flags = { z := !(readR8 z s).getLsbD b.toNat, n := false, h := true, c := s.flags.c } ∧
      ChangesOnly [] [] 0 s t

/-- 45_extended.md R212, R213 (no flag: decisions D7, D17), bit by bit: the 128 bit resets and sets complete in every
state and change bit `b` of the operand only. -/
def Obligations.BitResetAndSet : Prop :=
  ∀ (b : BitVec 3) (z : R8) (i : Instr) (x : Bool) (s : State), (i, x) ∈ [(resInstr b z, false), (setInstr b z, true)] →
    ∃ t, exec i s = .next t ∧
      (∀ k, k < 8 → (readR8 z t).getLsbD k = if k = b.toNat then x else (readR8 z s).getLsbD k) ∧
      t.flags = s.flags ∧ ChangesOnly (destCells z) (destBytes z s) 0 s t

/-- 45_extended.md R200: the escape completes in every state, and does what the extended instruction named by the byte
after it does with `pc` past that byte. -/
def Obligations.EscapeRunsExtended : Prop :=
  ∀ s : State, ∃ t, exec .prefix_CB s = .next t ∧
    exec (decodeExtended (s.byteAt s.pc)) (s.advance 1) = .next t ∧ t.pc = s.pc + 1#16

/-! ## Instructions without execution, and failures (46_unimplemented.md, 60_exceptions.md) -/

/-- 46_unimplemented.md R231 to R252 (which opcodes: decision D12; the payload: D20): each of the 22 raises
`UnimplementedInstruction` with its mnemonic in every state, and nothing else raises it. -/
def Obligations.UnimplementedExactly : Prop :=
  ∀ (i : Instr) (s : State) (m : String), exec i s = .fault (.unimplementedInstruction m) ↔
    (i, m) ∈ [(Instr.rlca, "RLCA"), (.rrca, "RRCA"), (.rla, "RLA"), (.rra, "RRA"), (.daa, "DAA"), (.cpl, "CPL"),
      (.scf, "SCF"), (.ccf, "CCF"), (.ld_ma16_SP, "LD (a16),SP"), (.stop, "STOP"), (.ldh_ma8_A, "LDH (a8),A"),
      (.ldh_A_ma8, "LDH A,(a8)"), (.ld_mC_A, "LD (C),A"), (.ld_A_mC, "LD A,(C)"), (.ld_ma16_A, "LD (a16),A"),
      (.ld_A_ma16, "LD A,(a16)"), (.add_SP_r8, "ADD SP,r8"), (.ld_HL_SPr8, "LD HL,SP+r8"), (.jp_mHL, "JP (HL)"),
      (.ld_SP_HL, "LD SP,HL"), (.di, "DI"), (.ei, "EI")]

/-- 46_unimplemented.md R260 (which bytes: decision D13; the payload: D20): each of the 11 raises `UnsupportedOpcode`
with its byte in every state, and nothing else raises it. -/
def Obligations.UnsupportedExactly : Prop :=
  ∀ (i : Instr) (s : State) (op : Byte), exec i s = .fault (.unsupportedOpcode op) ↔
    (i, op) ∈ [(Instr.unsupported_D3, 0xD3#8), (.unsupported_DB, 0xDB#8), (.unsupported_DD, 0xDD#8),
      (.unsupported_E3, 0xE3#8), (.unsupported_E4, 0xE4#8), (.unsupported_EB, 0xEB#8), (.unsupported_EC, 0xEC#8),
      (.unsupported_ED, 0xED#8), (.unsupported_F4, 0xF4#8), (.unsupported_FC, 0xFC#8), (.unsupported_FD, 0xFD#8)]

/-- 60_exceptions.md R272 (decision D19): an instruction raises `AddressOutOfRange` exactly under the condition of the
rule's table, and the address is always 0xFFFF. -/
def Obligations.AddressOutOfRangeExactly : Prop :=
  ∀ (i : Instr) (s : State) (a : Word), exec i s = .fault (.addressOutOfRange a) ↔
    WordAccessFails i.kind s ∧ a = 0xFFFF#16

/-- 60_exceptions.md R270 to R273, R287: an instruction completes exactly when it has an execution and makes no 16-bit
access at 0xFFFF, and no instruction is refused. -/
def Obligations.CompletesExactlyWhen : Prop :=
  ∀ (i : Instr) (s : State),
    ((∃ t, exec i s = .next t) ↔ ¬ HasNoExecution i.kind ∧ ¬ WordAccessFails i.kind s) ∧ ∀ r, exec i s ≠ .refused r

/-- 60_exceptions.md R270 to R275 (which bytes: decisions D12, D13; the 16-bit access: D19; payloads and order: D20),
by the opcode byte and the state the step starts from: under every configuration a step fails exactly on an unsupported
byte, on an unimplemented one, or where it makes a 16-bit access at 0xFFFF, with these payloads; the three exclude each
other (R274), and no step is refused. -/
def Obligations.StepFailsExactly : Prop :=
  ∀ (cfg : Config) (s : State) (op : Byte), op = s.byteAt s.pc →
    (∀ r, stepWith cfg s ≠ .refused r) ∧
    (∀ b, stepWith cfg s = .fault (.unsupportedOpcode b) ↔ b = op ∧
      op ∈ [0xD3#8, 0xDB#8, 0xDD#8, 0xE3#8, 0xE4#8, 0xEB#8, 0xEC#8, 0xED#8, 0xF4#8, 0xFC#8, 0xFD#8]) ∧
    (∀ m, stepWith cfg s = .fault (.unimplementedInstruction m) ↔
      (op, m) ∈ [(0x07#8, "RLCA"), (0x0F#8, "RRCA"), (0x17#8, "RLA"), (0x1F#8, "RRA"), (0x27#8, "DAA"),
        (0x2F#8, "CPL"), (0x37#8, "SCF"), (0x3F#8, "CCF"), (0x08#8, "LD (a16),SP"), (0x10#8, "STOP"),
        (0xE0#8, "LDH (a8),A"), (0xF0#8, "LDH A,(a8)"), (0xE2#8, "LD (C),A"), (0xF2#8, "LD A,(C)"),
        (0xEA#8, "LD (a16),A"), (0xFA#8, "LD A,(a16)"), (0xE8#8, "ADD SP,r8"), (0xF8#8, "LD HL,SP+r8"),
        (0xE9#8, "JP (HL)"), (0xF9#8, "LD SP,HL"), (0xF3#8, "DI"), (0xFB#8, "EI")]) ∧
    (∀ a, stepWith cfg s = .fault (.addressOutOfRange a) ↔ a = 0xFFFF#16 ∧
      (((op ∈ [0x01#8, 0x11#8, 0x21#8, 0x31#8, 0xC3#8] ∨
          ∃ cc, (op, cc) ∈ [(0xC2#8, Cond.nz), (0xCA#8, .z), (0xD2#8, .nc), (0xDA#8, .c)] ∧
            condHolds cc s.flags = true) ∧ s.pc = 0xFFFE#16) ∨
        ((op = 0xCD#8 ∨
          ∃ cc, (op, cc) ∈ [(0xC4#8, Cond.nz), (0xCC#8, .z), (0xD4#8, .nc), (0xDC#8, .c)] ∧
            condHolds cc s.flags = true) ∧ (s.sp = 0x0001#16 ∨ s.pc = 0xFFFE#16)) ∨
        (op ∈ [0xC5#8, 0xD5#8, 0xE5#8, 0xF5#8, 0xC7#8, 0xCF#8, 0xD7#8, 0xDF#8, 0xE7#8, 0xEF#8, 0xF7#8, 0xFF#8] ∧
          s.sp = 0x0001#16) ∨
        ((op ∈ [0xC1#8, 0xD1#8, 0xE1#8, 0xF1#8, 0xC9#8, 0xD9#8] ∨
          ∃ cc, (op, cc) ∈ [(0xC0#8, Cond.nz), (0xC8#8, .z), (0xD0#8, .nc), (0xD8#8, .c)] ∧
            condHolds cc s.flags = true) ∧ s.sp = 0xFFFF#16)))

/-! ## Whole-machine rules -/

/-- Who writes what the plain frames name (10_state.md R19, the summary of flag writers, decision D7; R11, decision D2;
R14): every instruction outside the lists leaves all four flags and SP as they were, and only `POP AF` writes the
cell F. -/
def Obligations.WritersOfFlagsFAndSP : Prop :=
  ∀ (i : Instr) (s t : State), exec i s = .next t →
    (¬ WritesFlags i.kind → t.flags = s.flags) ∧ (i ≠ .pop_AF → t.f = s.f) ∧ (¬ WritesSP i.kind → t.sp = s.sp)

/-- 10_state.md R23, R24 (modulo: decision D18), 30_encoding.md R62: after a step of an instruction that does not
transfer control, `pc` addresses the byte after it: the address it started at plus its length. -/
def Obligations.SequentialSteps : Prop :=
  ∀ (cfg : Config) (s t : State) (i : Instr) (rest : List Byte),
    decode [s.byteAt s.pc, s.byteAt (s.pc + 1#16)] = some (i, rest) → ¬ TransfersControl i.kind →
    stepWith cfg s = .next t → t.pc.toNat = (s.pc.toNat + i.length) % 65536

/-- 20_memory.md R43, R47: an instruction changes no byte of memory outside those it stores to, for every instruction;
most store none. -/
def Obligations.MemoryFrame : Prop :=
  ∀ (i : Instr) (s t : State), exec i s = .next t → KeepsBytes (storedBytes i.kind s) s t

/-! ## The Timing Scheduler (60_exceptions.md, 70_reset_and_hazards.md) -/

/-- 60_exceptions.md R280, R281 (decisions D23, D30, D31): below the threshold the counter grows and no byte changes; at
or past it the counter is 0 and the scanline byte, as memory holds it, advances once. -/
def Obligations.AccountAndScanline : Prop :=
  ∀ (cfg : Config) (n : Nat) (s : State),
    (s.cyc + n < cfg.cyclesPerScanline → (account cfg n s).cyc = s.cyc + n ∧ KeepsBytes [] s (account cfg n s)) ∧
    (cfg.cyclesPerScanline ≤ s.cyc + n → (account cfg n s).cyc = 0 ∧
      KeepsBytes [cfg.scanlineAddr] s (account cfg n s) ∧
      ((account cfg n s).byteAt cfg.scanlineAddr).toNat =
        if cfg.scanlineMax < ((s.byteAt cfg.scanlineAddr).toNat + 1) % 256 then 0
        else ((s.byteAt cfg.scanlineAddr).toNat + 1) % 256)

/-- 70_reset_and_hazards.md R313: from `cyc` = 0, costs whose partial sums stay below the threshold and whose whole sum
equals it advance the scanline byte exactly once and leave the counter at 0. -/
def Obligations.ExactSumAdvancesOnce : Prop :=
  ∀ (cfg : Config) (costs : List Nat) (s t : State), 0 < cfg.cyclesPerScanline → s.cyc = 0 →
    (∀ k, k < costs.length → (costs.take k).sum < cfg.cyclesPerScanline) → costs.sum = cfg.cyclesPerScanline →
    t = costs.foldl (fun u n => account cfg n u) s →
    t.cyc = 0 ∧ t = (advanceScanline cfg s).setCyc 0

/-- 70_reset_and_hazards.md R310, R311: `Cost(op, taken)` on an entry that is a number and on one that is a pair
(taken, not taken), and the default entries by instruction form (the values: decision D24). -/
def Obligations.CostTable : Prop :=
  (∀ (n : Nat) (taken : Bool), costOf (.flat n) taken = n) ∧
  (∀ (t nt : Nat) (taken : Bool), costOf (.branch t nt) taken = if taken then t else nt) ∧
  ∀ op : Byte, defaultCost op =
    match (decodePrimary op).kind with
    | .nop | .halt => .flat 4
    | .ld8 dst src => if dst = .m ∨ src = .m then .flat 8 else .flat 4
    | .ldi8 dst => if dst = .m then .flat 12 else .flat 8
    | .sta _ | .lda _ => .flat 8
    | .alu _ z => if z = .m then .flat 8 else .flat 4
    | .aluImm _ => .flat 8
    | .inc8 dst | .dec8 dst => if dst = .m then .flat 12 else .flat 4
    | .ld16 _ => .flat 12
    | .inc16 _ | .dec16 _ | .addHL _ => .flat 8
    | .push _ => .flat 16
    | .pop _ => .flat 12
    | .jp => .flat 16
    | .jpcc _ => .branch 16 12
    | .jr => .flat 12
    | .jrcc _ => .branch 12 8
    | .call => .flat 24
    | .callcc _ => .branch 24 12
    | .ret | .reti => .flat 16
    | .retcc _ => .branch 20 8
    | .rst _ => .flat 16
    | .escape | .ext _ => .flat 8
    | .unimpl _ _ _ | .unsupported _ => .empty

/-- 70_reset_and_hazards.md section 4: every part of the state but `cyc` and the scanline byte is independent of every
number of the timing: of the cost table, the threshold, the maximum index and the counter. -/
def Obligations.TimingIndependence : Prop :=
  ∀ (cfg cfg' : Config) (s t : State) (n : Nat), cfg'.scanlineAddr = cfg.scanlineAddr → stepWith cfg s = .next t →
    ∃ t', stepWith cfg' (s.setCyc n) = .next t' ∧ KeepsCells [] t t' ∧ KeepsBytes [cfg.scanlineAddr] t t' ∧
      t'.sp = t.sp ∧ t'.pc = t.pc ∧ t'.flags = t.flags

/-! ## Reset (10_state.md, 70_reset_and_hazards.md) -/

/-- 10_state.md R30 (the zeros of the cells, SP, flags and memory: decision D21; log 6, 7): the default state after
reset with the empty image. -/
def Obligations.ResetValues : Prop :=
  State.reset.pc = 0x0000#16 ∧ State.reset.cyc = 0 ∧ (∀ x, State.reset.cell x = 0x00#8) ∧
  State.reset.sp = 0x0000#16 ∧ State.reset.flags = { z := false, n := false, h := false, c := false } ∧
  ∀ a, State.reset.byteAt a = 0x00#8

/-- 70_reset_and_hazards.md R300, R301, for every configuration: the boot image lies from `BOOT_BASE` up, truncated at
the top of memory and never wrapped, and every other byte is `MEM_FILL`. -/
def Obligations.BootImageLoaded : Prop :=
  ∀ (cfg : Config) (a : Word),
    (State.resetWith cfg).byteAt a =
      if cfg.bootBase.toNat ≤ a.toNat then cfg.bootImage.getD (a.toNat - cfg.bootBase.toNat) cfg.memFill
      else cfg.memFill

/-- The invariant holds after reset, for every configuration with a positive threshold (10_state.md R25, R30). -/
def Obligations.ResetInvariant : Prop :=
  (∀ cfg : Config, 0 < cfg.cyclesPerScanline → Inv cfg (State.resetWith cfg)) ∧ Inv defaultConfig State.reset

/-- Every step keeps the invariant (20_memory.md R40; 10_state.md R25): memory stays canonical, with every entry inside
the 65536 addresses, and the counter stays below the threshold. -/
def Obligations.StepKeepsInvariant : Prop :=
  ∀ (cfg : Config) (s t : State), Inv cfg s → stepWith cfg s = .next t → Inv cfg t
end

