-- ==== Sys2Proof/Laws/Memory.lean ====
section
/-! SUPPORT. The laws of memory: a read after a write, and that every operation keeps the canonical form. -/

namespace Sys2Proof.Machine

@[simp] theorem memRead_nil (a : Nat) : memRead [] a = memUnlisted := rfl

theorem memErase_cons (k : Nat) (w : Byte) (m : Memory) (a : Nat) :
    memErase ((k, w) :: m) a = if k = a then memErase m a else (k, w) :: memErase m a := by
  by_cases h : k = a <;> simp [memErase, h]

theorem memErase_no_entry (m : Memory) (a : Nat) : ∀ c ∈ memErase m a, c.1 ≠ a := by
  intro c hc
  simpa using (List.mem_filter.mp hc).2

theorem memRead_memErase (m : Memory) (a x : Nat) :
    memRead (memErase m a) x = if x = a then memUnlisted else memRead m x := by
  induction m with
  | nil => simp [memErase]
  | cons c m ih =>
    obtain ⟨k, w⟩ := c
    rw [memErase_cons]
    by_cases hk : k = a
    · subst hk
      rw [if_pos rfl, ih]
      by_cases hx : x = k <;> simp [memRead, hx]
    · rw [if_neg hk]
      by_cases hx : x = a
      · subst hx
        simp [memRead, ih, Ne.symm hk]
      · simp [memRead, ih, hx]

theorem memRead_memInsert (m : Memory) (a : Nat) (v : Byte) (x : Nat) (h : ∀ c ∈ m, c.1 ≠ a) :
    memRead (memInsert m a v) x = if x = a then v else memRead m x := by
  induction m with
  | nil => simp [memInsert, memRead]
  | cons c m ih =>
    obtain ⟨k, w⟩ := c
    have hk : k ≠ a := h (k, w) (List.mem_cons_self ..)
    have ih := ih fun c hc => h c (List.mem_cons_of_mem _ hc)
    unfold memInsert
    split
    · simp [memRead]
    · by_cases hx : x = a
      · subst hx
        simp [memRead, ih, Ne.symm hk]
      · simp [memRead, ih, hx]

/-- A read after a write: the value at the address written, the old byte everywhere else (20_memory.md R42, R43). It
holds of every list, in canonical form or not. -/
@[simp] theorem memRead_memWrite (m : Memory) (a : Nat) (v : Byte) (x : Nat) :
    memRead (memWrite m a v) x = if x = a then v else memRead m x := by
  unfold memWrite
  split
  · next h => subst h; exact memRead_memErase m a x
  · rw [memRead_memInsert _ _ _ _ (memErase_no_entry m a), memRead_memErase]
    split <;> rfl

/-! ## The canonical form -/

theorem memWfFrom_cons (lo k : Nat) (v : Byte) (m : Memory) :
    memWfFrom lo ((k, v) :: m) = true ↔ lo ≤ k ∧ k < memSize ∧ v ≠ memUnlisted ∧ memWfFrom (k + 1) m = true := by
  simp [memWfFrom, and_assoc]

/-- An address below every entry reads as an unlisted one. -/
theorem memRead_of_lt {lo : Nat} {m : Memory} (h : memWfFrom lo m = true) {a : Nat} (ha : a < lo) :
    memRead m a = memUnlisted := by
  induction m generalizing lo with
  | nil => rfl
  | cons c m ih =>
    obtain ⟨k, v⟩ := c
    obtain ⟨h1, -, -, h4⟩ := (memWfFrom_cons lo k v m).mp h
    simp only [memRead]
    rw [if_neg (by omega)]
    exact ih h4 (by omega)

/-- Canonical memories that read alike are equal data. -/
theorem eq_of_memRead_eq {lo lo' : Nat} {m m' : Memory} (h : memWfFrom lo m = true) (h' : memWfFrom lo' m' = true)
    (hr : ∀ a, memRead m a = memRead m' a) : m = m' := by
  induction m generalizing lo lo' m' with
  | nil =>
    cases m' with
    | nil => rfl
    | cons c m' =>
      obtain ⟨k, v⟩ := c
      obtain ⟨-, -, h3, -⟩ := (memWfFrom_cons lo' k v m').mp h'
      exact absurd (by simpa [memRead] using (hr k).symm) h3
  | cons c m ih =>
    obtain ⟨k, v⟩ := c
    obtain ⟨-, -, h3, h4⟩ := (memWfFrom_cons lo k v m).mp h
    have hk : memRead ((k, v) :: m) k = v := by simp [memRead]
    cases m' with
    | nil => exact absurd (by rw [← hk, hr k]; rfl) h3
    | cons c' m' =>
      obtain ⟨k', v'⟩ := c'
      obtain ⟨-, -, h3', h4'⟩ := (memWfFrom_cons lo' k' v' m').mp h'
      have hk' : memRead ((k', v') :: m') k' = v' := by simp [memRead]
      rcases Nat.lt_trichotomy k k' with hlt | rfl | hlt
      · refine absurd ?_ h3
        rw [← hk, hr k]
        simp only [memRead]
        rw [if_neg (by omega)]
        exact memRead_of_lt h4' (by omega)
      · have hv : v = v' := by rw [← hk, hr k, hk']
        subst hv
        rw [ih h4 h4' fun a => ?_]
        have := hr a
        simp only [memRead] at this
        by_cases ha : a = k
        · rw [memRead_of_lt h4 (by omega), memRead_of_lt h4' (by omega)]
        · rwa [if_neg ha, if_neg ha] at this
      · refine absurd ?_ h3'
        rw [← hk', ← hr k']
        simp only [memRead]
        rw [if_neg (by omega)]
        exact memRead_of_lt h4 (by omega)

theorem memWfFrom_mono {lo lo' : Nat} {m : Memory} (h : memWfFrom lo m = true) (hl : lo' ≤ lo) :
    memWfFrom lo' m = true := by
  cases m with
  | nil => rfl
  | cons c m =>
    obtain ⟨k, v⟩ := c
    rw [memWfFrom_cons] at h ⊢
    exact ⟨by omega, h.2⟩

theorem memWfFrom_memErase {lo : Nat} {m : Memory} (a : Nat) (h : memWfFrom lo m = true) :
    memWfFrom lo (memErase m a) = true := by
  induction m generalizing lo with
  | nil => rfl
  | cons c m ih =>
    obtain ⟨k, v⟩ := c
    obtain ⟨h1, h2, h3, h4⟩ := (memWfFrom_cons ..).mp h
    rw [memErase_cons]
    split
    · exact memWfFrom_mono (ih h4) (by omega)
    · exact (memWfFrom_cons ..).mpr ⟨h1, h2, h3, ih h4⟩

theorem memWfFrom_memInsert {lo : Nat} {m : Memory} {a : Nat} {v : Byte} (h : memWfFrom lo m = true)
    (hlo : lo ≤ a) (ha : a < memSize) (hv : v ≠ memUnlisted) (hm : ∀ c ∈ m, c.1 ≠ a) :
    memWfFrom lo (memInsert m a v) = true := by
  induction m generalizing lo with
  | nil => exact (memWfFrom_cons ..).mpr ⟨hlo, ha, hv, rfl⟩
  | cons c m ih =>
    obtain ⟨k, w⟩ := c
    obtain ⟨h1, h2, h3, h4⟩ := (memWfFrom_cons ..).mp h
    have hk : k ≠ a := hm (k, w) (List.mem_cons_self ..)
    unfold memInsert
    split
    · next hlt =>
      exact (memWfFrom_cons ..).mpr ⟨hlo, ha, hv, (memWfFrom_cons ..).mpr ⟨by omega, h2, h3, h4⟩⟩
    · next hge =>
      exact (memWfFrom_cons ..).mpr ⟨h1, h2, h3, ih h4 (by omega) fun c hc => hm c (List.mem_cons_of_mem _ hc)⟩

/-- A write keeps the canonical form. -/
theorem wf_memWrite {m : Memory} {a : Nat} (v : Byte) (h : m.wf = true) (ha : a < memSize) :
    (memWrite m a v).wf = true := by
  unfold memWrite
  split
  · exact memWfFrom_memErase a h
  · next hv => exact memWfFrom_memInsert (memWfFrom_memErase a h) (Nat.zero_le a) ha hv (memErase_no_entry m a)

/-- Loading an image keeps the canonical form. -/
theorem wf_memLoad {m : Memory} (h : m.wf = true) (a : Nat) (bs : List Byte) : (memLoad m a bs).wf = true := by
  induction bs generalizing m a with
  | nil => exact h
  | cons b bs ih =>
    unfold memLoad
    split
    · next ha => exact ih (wf_memWrite b h ha) (a + 1)
    · exact h

theorem memWfFrom_range (v : Byte) (hv : v ≠ memUnlisted) (n lo : Nat) (h : lo + n ≤ memSize) :
    memWfFrom lo ((List.range' lo n).map fun a => (a, v)) = true := by
  induction n generalizing lo with
  | zero => rfl
  | succ n ih =>
    rw [List.range'_succ, List.map_cons]
    exact (memWfFrom_cons ..).mpr ⟨le_refl _, by omega, hv, ih (lo + 1) (by omega)⟩

/-- The filled memory is in canonical form. -/
theorem wf_memFilled (v : Byte) : (memFilled v).wf = true := by
  unfold memFilled
  split
  · rfl
  · next hv =>
    rw [List.range_eq_range']
    exact memWfFrom_range v hv memSize 0 (by omega)

/-! ## What reset leaves in memory -/

theorem memRead_range (v : Byte) (n lo x : Nat) (h : lo ≤ x) (hx : x < lo + n) :
    memRead ((List.range' lo n).map fun a => (a, v)) x = v := by
  induction n generalizing lo with
  | zero => omega
  | succ n ih =>
    rw [List.range'_succ, List.map_cons]
    unfold memRead
    split
    · rfl
    · exact ih (lo + 1) (by omega) (by omega)

/-- Every byte of the filled memory holds the value (70_reset_and_hazards.md R300). -/
theorem memRead_memFilled (v : Byte) (x : Nat) (hx : x < memSize) : memRead (memFilled v) x = v := by
  unfold memFilled
  split
  · next h => rw [h, memRead_nil]
  · rw [List.range_eq_range']
    exact memRead_range v memSize 0 x (Nat.zero_le x) (by omega)

/-- A loaded image: its bytes where it lies, the old bytes elsewhere, what lies beyond the last address dropped
(70_reset_and_hazards.md R301). -/
theorem memRead_memLoad (m : Memory) (a : Nat) (bs : List Byte) (x : Nat) (hx : x < memSize) :
    memRead (memLoad m a bs) x = if a ≤ x then (bs[x - a]?).getD (memRead m x) else memRead m x := by
  induction bs generalizing m a with
  | nil => simp [memLoad]
  | cons b bs ih =>
    unfold memLoad
    by_cases ha : a < memSize
    · rw [if_pos ha, ih, memRead_memWrite]
      by_cases h1 : a + 1 ≤ x
      · have h2 : x - a = (x - (a + 1)) + 1 := by omega
        rw [if_pos h1, if_neg (by omega), if_pos (by omega), h2, List.getElem?_cons_succ]
      · rw [if_neg h1]
        by_cases h3 : x = a
        · subst h3
          simp
        · rw [if_neg h3, if_neg (by omega)]
    · rw [if_neg ha, if_neg (by omega)]

end Sys2Proof.Machine
end

