-- ==== Sys2Proof/Laws/State.lean ====
section
/-! SUPPORT. The laws of the state updates: one lemma per field per update, so that no proof unfolds a record update. -/

namespace Sys2Proof.Machine

variable (s : State)

/-! ## `setCell` -/

@[simp] theorem sp_setCell (x : Cell) (v : Byte) : (s.setCell x v).sp = s.sp := by cases x <;> rfl
@[simp] theorem pc_setCell (x : Cell) (v : Byte) : (s.setCell x v).pc = s.pc := by cases x <;> rfl
@[simp] theorem flags_setCell (x : Cell) (v : Byte) : (s.setCell x v).flags = s.flags := by cases x <;> rfl
@[simp] theorem cyc_setCell (x : Cell) (v : Byte) : (s.setCell x v).cyc = s.cyc := by cases x <;> rfl
@[simp] theorem mem_setCell (x : Cell) (v : Byte) : (s.setCell x v).mem = s.mem := by cases x <;> rfl
@[simp] theorem cell_setCell (x : Cell) (v : Byte) (y : Cell) :
    (s.setCell x v).cell y = if y = x then v else s.cell y := by
  cases x <;> cases y <;> rfl
@[simp] theorem byteAt_setCell (x : Cell) (v : Byte) (a : Word) : (s.setCell x v).byteAt a = s.byteAt a := by simp [State.byteAt]

/-! ## `setSP` -/

@[simp] theorem sp_setSP (v : Word) : (s.setSP v).sp = v := rfl
@[simp] theorem pc_setSP (v : Word) : (s.setSP v).pc = s.pc := rfl
@[simp] theorem flags_setSP (v : Word) : (s.setSP v).flags = s.flags := rfl
@[simp] theorem cyc_setSP (v : Word) : (s.setSP v).cyc = s.cyc := rfl
@[simp] theorem mem_setSP (v : Word) : (s.setSP v).mem = s.mem := rfl
@[simp] theorem cell_setSP (v : Word) (y : Cell) : (s.setSP v).cell y = s.cell y := by cases y <;> rfl
@[simp] theorem byteAt_setSP (v : Word) (a : Word) : (s.setSP v).byteAt a = s.byteAt a := by simp [State.byteAt]
@[simp] theorem pair_setSP (v : Word) (hi lo : Cell) : (s.setSP v).pair hi lo = s.pair hi lo := by simp [State.pair]
@[simp] theorem hl_setSP (v : Word) : (s.setSP v).hl = s.hl := by simp [State.hl]

/-! ## `setPC` -/

@[simp] theorem sp_setPC (v : Word) : (s.setPC v).sp = s.sp := rfl
@[simp] theorem pc_setPC (v : Word) : (s.setPC v).pc = v := rfl
@[simp] theorem flags_setPC (v : Word) : (s.setPC v).flags = s.flags := rfl
@[simp] theorem cyc_setPC (v : Word) : (s.setPC v).cyc = s.cyc := rfl
@[simp] theorem mem_setPC (v : Word) : (s.setPC v).mem = s.mem := rfl
@[simp] theorem cell_setPC (v : Word) (y : Cell) : (s.setPC v).cell y = s.cell y := by cases y <;> rfl
@[simp] theorem byteAt_setPC (v : Word) (a : Word) : (s.setPC v).byteAt a = s.byteAt a := by simp [State.byteAt]
@[simp] theorem pair_setPC (v : Word) (hi lo : Cell) : (s.setPC v).pair hi lo = s.pair hi lo := by simp [State.pair]
@[simp] theorem hl_setPC (v : Word) : (s.setPC v).hl = s.hl := by simp [State.hl]

/-! ## `setFlags` -/

@[simp] theorem sp_setFlags (v : Flags) : (s.setFlags v).sp = s.sp := rfl
@[simp] theorem pc_setFlags (v : Flags) : (s.setFlags v).pc = s.pc := rfl
@[simp] theorem flags_setFlags (v : Flags) : (s.setFlags v).flags = v := rfl
@[simp] theorem cyc_setFlags (v : Flags) : (s.setFlags v).cyc = s.cyc := rfl
@[simp] theorem mem_setFlags (v : Flags) : (s.setFlags v).mem = s.mem := rfl
@[simp] theorem cell_setFlags (v : Flags) (y : Cell) : (s.setFlags v).cell y = s.cell y := by cases y <;> rfl
@[simp] theorem byteAt_setFlags (v : Flags) (a : Word) : (s.setFlags v).byteAt a = s.byteAt a := by simp [State.byteAt]
@[simp] theorem pair_setFlags (v : Flags) (hi lo : Cell) : (s.setFlags v).pair hi lo = s.pair hi lo := by simp [State.pair]
@[simp] theorem hl_setFlags (v : Flags) : (s.setFlags v).hl = s.hl := by simp [State.hl]

/-! ## `setCyc` -/

@[simp] theorem sp_setCyc (v : Nat) : (s.setCyc v).sp = s.sp := rfl
@[simp] theorem pc_setCyc (v : Nat) : (s.setCyc v).pc = s.pc := rfl
@[simp] theorem flags_setCyc (v : Nat) : (s.setCyc v).flags = s.flags := rfl
@[simp] theorem cyc_setCyc (v : Nat) : (s.setCyc v).cyc = v := rfl
@[simp] theorem mem_setCyc (v : Nat) : (s.setCyc v).mem = s.mem := rfl
@[simp] theorem cell_setCyc (v : Nat) (y : Cell) : (s.setCyc v).cell y = s.cell y := by cases y <;> rfl
@[simp] theorem byteAt_setCyc (v : Nat) (a : Word) : (s.setCyc v).byteAt a = s.byteAt a := by simp [State.byteAt]
@[simp] theorem pair_setCyc (v : Nat) (hi lo : Cell) : (s.setCyc v).pair hi lo = s.pair hi lo := by simp [State.pair]
@[simp] theorem hl_setCyc (v : Nat) : (s.setCyc v).hl = s.hl := by simp [State.hl]

/-! ## `advance` -/

@[simp] theorem sp_advance (n : Nat) : (s.advance n).sp = s.sp := rfl
@[simp] theorem pc_advance (n : Nat) : (s.advance n).pc = s.pc + BitVec.ofNat 16 n := rfl
@[simp] theorem flags_advance (n : Nat) : (s.advance n).flags = s.flags := rfl
@[simp] theorem cyc_advance (n : Nat) : (s.advance n).cyc = s.cyc := rfl
@[simp] theorem mem_advance (n : Nat) : (s.advance n).mem = s.mem := rfl
@[simp] theorem cell_advance (n : Nat) (y : Cell) : (s.advance n).cell y = s.cell y := by cases y <;> rfl
@[simp] theorem byteAt_advance (n : Nat) (a : Word) : (s.advance n).byteAt a = s.byteAt a := by simp [State.byteAt]
@[simp] theorem pair_advance (n : Nat) (hi lo : Cell) : (s.advance n).pair hi lo = s.pair hi lo := by simp [State.pair]
@[simp] theorem hl_advance (n : Nat) : (s.advance n).hl = s.hl := by simp [State.hl]

/-! ## `setByte` -/

@[simp] theorem sp_setByte (p : Word) (v : Byte) : (s.setByte p v).sp = s.sp := rfl
@[simp] theorem pc_setByte (p : Word) (v : Byte) : (s.setByte p v).pc = s.pc := rfl
@[simp] theorem flags_setByte (p : Word) (v : Byte) : (s.setByte p v).flags = s.flags := rfl
@[simp] theorem cyc_setByte (p : Word) (v : Byte) : (s.setByte p v).cyc = s.cyc := rfl
@[simp] theorem mem_setByte (p : Word) (v : Byte) : (s.setByte p v).mem = memWrite s.mem p.toNat v := rfl
@[simp] theorem cell_setByte (p : Word) (v : Byte) (y : Cell) : (s.setByte p v).cell y = s.cell y := by cases y <;> rfl
@[simp] theorem byteAt_setByte (p : Word) (v : Byte) (a : Word) :
    (s.setByte p v).byteAt a = if a = p then v else s.byteAt a := by
  simp [State.byteAt, BitVec.toNat_inj]
@[simp] theorem pair_setByte (p : Word) (v : Byte) (hi lo : Cell) : (s.setByte p v).pair hi lo = s.pair hi lo := by simp [State.pair]
@[simp] theorem hl_setByte (p : Word) (v : Byte) : (s.setByte p v).hl = s.hl := by simp [State.hl]

/-! ## `setPair` -/

@[simp] theorem sp_setPair (hi lo : Cell) (v : Word) : (s.setPair hi lo v).sp = s.sp := by simp [State.setPair]
@[simp] theorem pc_setPair (hi lo : Cell) (v : Word) : (s.setPair hi lo v).pc = s.pc := by simp [State.setPair]
@[simp] theorem flags_setPair (hi lo : Cell) (v : Word) : (s.setPair hi lo v).flags = s.flags := by simp [State.setPair]
@[simp] theorem cyc_setPair (hi lo : Cell) (v : Word) : (s.setPair hi lo v).cyc = s.cyc := by simp [State.setPair]
@[simp] theorem mem_setPair (hi lo : Cell) (v : Word) : (s.setPair hi lo v).mem = s.mem := by simp [State.setPair]
@[simp] theorem cell_setPair (hi lo : Cell) (v : Word) (y : Cell) : (s.setPair hi lo v).cell y =
    if y = lo then loByte v else if y = hi then hiByte v else s.cell y := by
  simp [State.setPair]
@[simp] theorem byteAt_setPair (hi lo : Cell) (v : Word) (a : Word) : (s.setPair hi lo v).byteAt a = s.byteAt a := by simp [State.byteAt]

/-! ## `setHL` -/

@[simp] theorem sp_setHL (v : Word) : (s.setHL v).sp = s.sp := by simp [State.setHL]
@[simp] theorem pc_setHL (v : Word) : (s.setHL v).pc = s.pc := by simp [State.setHL]
@[simp] theorem flags_setHL (v : Word) : (s.setHL v).flags = s.flags := by simp [State.setHL]
@[simp] theorem cyc_setHL (v : Word) : (s.setHL v).cyc = s.cyc := by simp [State.setHL]
@[simp] theorem mem_setHL (v : Word) : (s.setHL v).mem = s.mem := by simp [State.setHL]
@[simp] theorem cell_setHL (v : Word) (y : Cell) : (s.setHL v).cell y =
    if y = .l then loByte v else if y = .h then hiByte v else s.cell y := by
  simp [State.setHL]
@[simp] theorem byteAt_setHL (v : Word) (a : Word) : (s.setHL v).byteAt a = s.byteAt a := by simp [State.byteAt]

/-! ## Two halves of a word -/

theorem toNat_mkWord (hi lo : Byte) : (mkWord hi lo).toNat = hi.toNat * 256 + lo.toNat := by
  have h : (mkWord hi lo).toNat = hi.toNat <<< 8 ||| lo.toNat := BitVec.toNat_append hi lo
  rw [h, ← Nat.shiftLeft_add_eq_or_of_lt lo.isLt, Nat.shiftLeft_eq]

theorem toNat_hiByte (v : Word) : (hiByte v).toNat = v.toNat / 256 := by
  have := v.isLt
  simp only [hiByte, BitVec.extractLsb'_toNat, Nat.shiftRight_eq_div_pow]
  omega

theorem toNat_loByte (v : Word) : (loByte v).toNat = v.toNat % 256 := by
  simp [loByte, BitVec.extractLsb'_toNat]

@[simp] theorem hiByte_mkWord (hi lo : Byte) : hiByte (mkWord hi lo) = hi := by
  apply BitVec.eq_of_toNat_eq
  have := lo.isLt
  rw [toNat_hiByte, toNat_mkWord]
  omega

@[simp] theorem loByte_mkWord (hi lo : Byte) : loByte (mkWord hi lo) = lo := by
  apply BitVec.eq_of_toNat_eq
  have := lo.isLt
  rw [toNat_loByte, toNat_mkWord]
  omega

@[simp] theorem mkWord_hiByte_loByte (v : Word) : mkWord (hiByte v) (loByte v) = v := by
  apply BitVec.eq_of_toNat_eq
  rw [toNat_mkWord, toNat_hiByte, toNat_loByte]
  omega

@[simp] theorem pair_setPair (hi lo : Cell) (h : hi ≠ lo) (v : Word) : (s.setPair hi lo v).pair hi lo = v := by
  simp [State.pair, h]

@[simp] theorem hl_setHL (v : Word) : (s.setHL v).hl = v := by
  simp [State.hl, State.pair]

end Sys2Proof.Machine
end

