-- ==== Sys2Proof/Laws/Ops.lean ====
section
/-! SUPPORT. What each shared operation can answer: sequencing, 16-bit accesses, fetch and stack. -/

namespace Sys2Proof.Machine

/-! ## Sequencing -/

section
variable {α β : Type} {x : Host.Outcome α Fault Refusal} {k : α → Host.Outcome β Fault Refusal}

@[simp] theorem andThen_next (v : α) : andThen (.next v) k = k v := rfl
@[simp] theorem andThen_fault (r : Fault) : andThen (.fault r) k = .fault r := rfl
@[simp] theorem andThen_refused (r : Refusal) : andThen (.refused r) k = .refused r := rfl

theorem andThen_eq_next {t : β} : andThen x k = .next t ↔ ∃ v, x = .next v ∧ k v = .next t := by
  cases x <;> simp

theorem andThen_eq_fault {r : Fault} :
    andThen x k = .fault r ↔ x = .fault r ∨ ∃ v, x = .next v ∧ k v = .fault r := by
  cases x <;> simp

theorem andThen_eq_refused {r : Refusal} :
    andThen x k = .refused r ↔ x = .refused r ∨ ∃ v, x = .next v ∧ k v = .refused r := by
  cases x <;> simp
end

/-! ## 16-bit accesses -/

variable {s t : State}

theorem wordAt_top (s : State) : s.wordAt 0xFFFF#16 = .fault (.addressOutOfRange 0xFFFF#16) := rfl

theorem wordAt_of_ne {p : Word} (h : p ≠ 0xFFFF#16) :
    s.wordAt p = .next (mkWord (s.byteAt (p + 1#16)) (s.byteAt p)) := if_neg h

theorem wordAt_eq_next {p v : Word} :
    s.wordAt p = .next v ↔ p ≠ 0xFFFF#16 ∧ v = mkWord (s.byteAt (p + 1#16)) (s.byteAt p) := by
  by_cases h : p = 0xFFFF#16
  · subst h; simp [wordAt_top]
  · simp [wordAt_of_ne h, h, eq_comm]

theorem wordAt_eq_fault {p : Word} {r : Fault} :
    s.wordAt p = .fault r ↔ p = 0xFFFF#16 ∧ r = .addressOutOfRange 0xFFFF#16 := by
  by_cases h : p = 0xFFFF#16
  · subst h; simp [wordAt_top, eq_comm]
  · simp [wordAt_of_ne h, h]

theorem wordAt_ne_refused {p : Word} {r : Refusal} : s.wordAt p ≠ .refused r := by
  by_cases h : p = 0xFFFF#16
  · subst h; simp [wordAt_top]
  · simp [wordAt_of_ne h]

theorem setWord_top (s : State) (v : Word) : s.setWord 0xFFFF#16 v = .fault (.addressOutOfRange 0xFFFF#16) := rfl

theorem setWord_of_ne {p : Word} (v : Word) (h : p ≠ 0xFFFF#16) :
    s.setWord p v = .next ((s.setByte p (loByte v)).setByte (p + 1#16) (hiByte v)) := if_neg h

theorem word_ne_succ (p : Word) : p + 1#16 ≠ p := by
  bv_omega

/-! ## Fetch -/

theorem fetch16_top (h : s.pc = 0xFFFF#16) : fetch16 s = .fault (.addressOutOfRange 0xFFFF#16) := by
  simp [fetch16, h, wordAt_top]

theorem fetch16_of_ne (h : s.pc ≠ 0xFFFF#16) :
    fetch16 s = .next (mkWord (s.byteAt (s.pc + 1#16)) (s.byteAt s.pc), s.advance 2) := by
  simp [fetch16, wordAt_of_ne h]

/-! ## The stack -/

theorem pushSlot_top (v : Word) : v + 65534#16 = 0xFFFF#16 ↔ v = 0x0001#16 := by
  constructor <;> intro h <;> bv_omega

theorem pushSlot_succ (v : Word) : v + 65534#16 + 1#16 = v + 65535#16 := by
  rw [BitVec.add_assoc]; rfl

theorem push16_top (v : Word) (h : s.sp = 0x0001#16) : push16 v s = .fault (.addressOutOfRange 0xFFFF#16) := by
  unfold push16
  rw [(pushSlot_top s.sp).mpr h]
  rfl

/-- A push that succeeds (43_wide16.md R156): SP moves down by 2, the low byte lands at the new SP, the high byte above
it. -/
theorem push16_of_ne (v : Word) (h : s.sp ≠ 0x0001#16) :
    push16 v s = .next (((s.setSP (s.sp + 65534#16)).setByte (s.sp + 65534#16) (loByte v)).setByte
      (s.sp + 65535#16) (hiByte v)) := by
  unfold push16
  rw [setWord_of_ne _ (mt (pushSlot_top s.sp).mp h), pushSlot_succ]

theorem pop16_top (h : s.sp = 0xFFFF#16) : pop16 s = .fault (.addressOutOfRange 0xFFFF#16) := by
  simp [pop16, h, wordAt_top]

/-- A pop that succeeds (43_wide16.md R157). -/
theorem pop16_of_ne (h : s.sp ≠ 0xFFFF#16) :
    pop16 s = .next (mkWord (s.byteAt (s.sp + 1#16)) (s.byteAt s.sp), s.setSP (s.sp + 2#16)) := by
  simp [pop16, wordAt_of_ne h]

end Sys2Proof.Machine
end

