-- ==== Sys2Proof/Laws/Operands.lean ====
section
/-! SUPPORT. The laws of the operand forms: what a write of an operand changes, and that a read after it gives the value
written. -/

namespace Sys2Proof.Machine

variable (s : State)

/-! ## 8-bit operands -/

@[simp] theorem sp_writeR8 (i : R8) (v : Byte) : (writeR8 i v s).sp = s.sp := by cases i <;> simp [writeR8]
@[simp] theorem pc_writeR8 (i : R8) (v : Byte) : (writeR8 i v s).pc = s.pc := by cases i <;> simp [writeR8]
@[simp] theorem flags_writeR8 (i : R8) (v : Byte) : (writeR8 i v s).flags = s.flags := by cases i <;> simp [writeR8]
@[simp] theorem cyc_writeR8 (i : R8) (v : Byte) : (writeR8 i v s).cyc = s.cyc := by cases i <;> simp [writeR8]

/-- Reading back an operand gives the value written, through a cell or through memory at HL. -/
@[simp] theorem readR8_writeR8 (i : R8) (v : Byte) : readR8 i (writeR8 i v s) = v := by
  cases i <;> simp [readR8, writeR8]

theorem keepsCells_writeR8 (i : R8) (v : Byte) : KeepsCells (destCells i) s (writeR8 i v s) := by
  intro x hx
  cases i <;> simp_all [writeR8, destCells]

theorem keepsBytes_writeR8 (i : R8) (v : Byte) : KeepsBytes (destBytes i s) s (writeR8 i v s) := by
  intro x hx
  cases i <;> simp_all [writeR8, destBytes]

@[simp] theorem readR8_setFlags (i : R8) (v : Flags) : readR8 i (s.setFlags v) = readR8 i s := by
  cases i <;> simp [readR8]

@[simp] theorem readR8_setPC (i : R8) (v : Word) : readR8 i (s.setPC v) = readR8 i s := by
  cases i <;> simp [readR8]

@[simp] theorem readR8_advance (i : R8) (n : Nat) : readR8 i (s.advance n) = readR8 i s := by
  cases i <;> simp [readR8]

/-! ## Pair views -/

@[simp] theorem sp_writePair (p : PairView) (v : Word) : (writePair p v s).sp = s.sp := by cases p <;> simp [writePair]
@[simp] theorem pc_writePair (p : PairView) (v : Word) : (writePair p v s).pc = s.pc := by cases p <;> simp [writePair]
@[simp] theorem flags_writePair (p : PairView) (v : Word) : (writePair p v s).flags = s.flags := by
  cases p <;> simp [writePair]
@[simp] theorem cyc_writePair (p : PairView) (v : Word) : (writePair p v s).cyc = s.cyc := by
  cases p <;> simp [writePair]
@[simp] theorem mem_writePair (p : PairView) (v : Word) : (writePair p v s).mem = s.mem := by
  cases p <;> simp [writePair]
@[simp] theorem byteAt_writePair (p : PairView) (v : Word) (a : Word) : (writePair p v s).byteAt a = s.byteAt a := by
  cases p <;> simp [writePair]

@[simp] theorem sp_readPair (p : PairView) : (readPair p s).2.sp = s.sp := by cases p <;> simp [readPair]
@[simp] theorem pc_readPair (p : PairView) : (readPair p s).2.pc = s.pc := by cases p <;> simp [readPair]
@[simp] theorem flags_readPair (p : PairView) : (readPair p s).2.flags = s.flags := by cases p <;> simp [readPair]
@[simp] theorem cyc_readPair (p : PairView) : (readPair p s).2.cyc = s.cyc := by cases p <;> simp [readPair]
@[simp] theorem mem_readPair (p : PairView) : (readPair p s).2.mem = s.mem := by cases p <;> simp [readPair]
@[simp] theorem byteAt_readPair (p : PairView) (a : Word) : (readPair p s).2.byteAt a = s.byteAt a := by
  cases p <;> simp [readPair]

theorem keepsCells_readPair (v : MemView) : KeepsCells (viewCells v) s (readPair (memView v) s).2 := by
  intro x hx
  cases v <;> simp_all [readPair, memView, viewCells]

/-! ## 16-bit operands -/

@[simp] theorem pc_writeR16 (r : R16) (v : Word) : (writeR16 r v s).pc = s.pc := by cases r <;> simp [writeR16]
@[simp] theorem flags_writeR16 (r : R16) (v : Word) : (writeR16 r v s).flags = s.flags := by
  cases r <;> simp [writeR16]
@[simp] theorem cyc_writeR16 (r : R16) (v : Word) : (writeR16 r v s).cyc = s.cyc := by cases r <;> simp [writeR16]
@[simp] theorem mem_writeR16 (r : R16) (v : Word) : (writeR16 r v s).mem = s.mem := by cases r <;> simp [writeR16]
@[simp] theorem byteAt_writeR16 (r : R16) (v : Word) (a : Word) : (writeR16 r v s).byteAt a = s.byteAt a := by
  cases r <;> simp [writeR16]

theorem sp_writeR16 (r : R16) (v : Word) : (writeR16 r v s).sp = if r = .sp then v else s.sp := by
  cases r <;> simp [writeR16]

@[simp] theorem readR16_writeR16 (r : R16) (v : Word) : readR16 r (writeR16 r v s) = v := by
  cases r <;> simp [readR16, writeR16, readPair, writePair]

theorem keepsCells_writeR16 (r : R16) (v : Word) : KeepsCells (destCells16 r) s (writeR16 r v s) := by
  intro x hx
  cases r <;> simp_all [writeR16, writePair, destCells16, State.setHL]

@[simp] theorem sp_writeR16S (r : R16S) (v : Word) : (writeR16S r v s).sp = s.sp := by simp [writeR16S]
@[simp] theorem pc_writeR16S (r : R16S) (v : Word) : (writeR16S r v s).pc = s.pc := by simp [writeR16S]
@[simp] theorem flags_writeR16S (r : R16S) (v : Word) : (writeR16S r v s).flags = s.flags := by simp [writeR16S]
@[simp] theorem cyc_writeR16S (r : R16S) (v : Word) : (writeR16S r v s).cyc = s.cyc := by simp [writeR16S]
@[simp] theorem mem_writeR16S (r : R16S) (v : Word) : (writeR16S r v s).mem = s.mem := by simp [writeR16S]
@[simp] theorem byteAt_writeR16S (r : R16S) (v : Word) (a : Word) : (writeR16S r v s).byteAt a = s.byteAt a := by
  simp [writeR16S]

@[simp] theorem readR16S_writeR16S (r : R16S) (v : Word) : readR16S r (writeR16S r v s) = v := by
  cases r <;> simp [readR16S, writeR16S, readPair, writePair, stackView]

theorem keepsCells_writeR16S (r : R16S) (v : Word) : KeepsCells (destCells16S r) s (writeR16S r v s) := by
  intro x hx
  cases r <;> simp_all [writeR16S, writePair, destCells16S, stackView, State.setHL]

end Sys2Proof.Machine
end

