-- ==== Sys2Proof/Laws/Exec.lean ====
section
/-! SUPPORT. The meanings by decoded form: `exec i` is the shared operation that `i.kind` names, proved once by cases on
the instruction; and the decoded form of each instruction table of the decoder. -/

namespace Sys2Proof.Machine

/-! ## 3-bit indices -/

/-- A property of the eight 3-bit values holds of every 3-bit value. -/
theorem forall_index3 {P : BitVec 3 → Prop} (h : P 0#3 ∧ P 1#3 ∧ P 2#3 ∧ P 3#3 ∧ P 4#3 ∧ P 5#3 ∧ P 6#3 ∧ P 7#3)
    (b : BitVec 3) : P b := by
  obtain ⟨n⟩ := b
  obtain ⟨h0, h1, h2, h3, h4, h5, h6, h7⟩ := h
  match n with
  | 0 => exact h0
  | 1 => exact h1
  | 2 => exact h2
  | 3 => exact h3
  | 4 => exact h4
  | 5 => exact h5
  | 6 => exact h6
  | 7 => exact h7

/-- A property of the four 2-bit values holds of every 2-bit value. -/
theorem forall_index2 {P : BitVec 2 → Prop} (h : P 0#2 ∧ P 1#2 ∧ P 2#2 ∧ P 3#2) (b : BitVec 2) : P b := by
  obtain ⟨n⟩ := b
  obtain ⟨h0, h1, h2, h3⟩ := h
  match n with
  | 0 => exact h0
  | 1 => exact h1
  | 2 => exact h2
  | 3 => exact h3

/-! ## Execution by decoded form -/

/-- The shared operation of an extended operation. -/
def runExt (x : ExtOp) (s : State) : Result :=
  match x with
  | .rot o z => rotateOperand o z s
  | .bit b z => testBit b z s
  | .res b z => resetBit b z s
  | .set b z => setBit b z s

/-- The shared operation of a decoded form. -/
def runKind (k : Kind) (s : State) : Result :=
  match k with
  | .nop | .halt => .next s
  | .ld8 dst src => loadOperand dst src s
  | .ldi8 dst => loadImmediate dst s
  | .sta v => storeA v s
  | .lda v => loadA v s
  | .alu f z => aluOperand f z s
  | .aluImm f => aluImmediate f s
  | .inc8 dst => increment8 dst s
  | .dec8 dst => decrement8 dst s
  | .ld16 r => load16 r s
  | .inc16 r => increment16 r s
  | .dec16 r => decrement16 r s
  | .addHL r => addHL r s
  | .push r => pushPair r s
  | .pop r => popPair r s
  | .jp => jumpAbsolute s
  | .jpcc cc => ifTaken cc jumpAbsolute 2 s
  | .jr => jumpRelative s
  | .jrcc cc => ifTaken cc jumpRelative 1 s
  | .call => callAbsolute s
  | .callcc cc => ifTaken cc callAbsolute 2 s
  | .ret | .reti => popPC s
  | .retcc cc => ifTaken cc popPC 0 s
  | .rst t => restart t s
  | .escape => runExt (extFields (fetch8 s).1) (fetch8 s).2
  | .ext x => runExt x s
  | .unimpl m _ _ => raise (.unimplementedInstruction m)
  | .unsupported op => raise (.unsupportedOpcode op)

theorem execExtOp_eq_runExt (x : ExtOp) (s : State) : execExtOp x s = runExt x s := by
  cases x with
  | rot o z => cases o <;> cases z <;> rfl
  | bit b z =>
    cases z <;> exact forall_index3 (P := fun b => execExtOp (.bit b _) s = runExt (.bit b _) s)
      ⟨rfl, rfl, rfl, rfl, rfl, rfl, rfl, rfl⟩ b
  | res b z =>
    cases z <;> exact forall_index3 (P := fun b => execExtOp (.res b _) s = runExt (.res b _) s)
      ⟨rfl, rfl, rfl, rfl, rfl, rfl, rfl, rfl⟩ b
  | set b z =>
    cases z <;> exact forall_index3 (P := fun b => execExtOp (.set b _) s = runExt (.set b _) s)
      ⟨rfl, rfl, rfl, rfl, rfl, rfl, rfl, rfl⟩ b

/-- Every instruction runs the shared operation of its decoded form. -/
theorem exec_eq_runKind (i : Instr) (s : State) : exec i s = runKind i.kind s := by
  cases i <;> first | rfl | exact execExtOp_eq_runExt _ _

/-! ## The decoded form of the decoder's tables -/

theorem kind_ldInstr (dst src : R8) (h : dst ≠ .m ∨ src ≠ .m) : (ldInstr dst src).kind = .ld8 dst src := by
  cases dst <;> cases src <;> first | rfl | simp at h

@[simp] theorem kind_ldImmInstr (dst : R8) : (ldImmInstr dst).kind = .ldi8 dst := by cases dst <;> rfl
@[simp] theorem kind_incInstr (dst : R8) : (incInstr dst).kind = .inc8 dst := by cases dst <;> rfl
@[simp] theorem kind_decInstr (dst : R8) : (decInstr dst).kind = .dec8 dst := by cases dst <;> rfl
@[simp] theorem kind_aluInstr (f : AluOp) (z : R8) : (aluInstr f z).kind = .alu f z := by
  cases f <;> cases z <;> rfl
@[simp] theorem kind_aluImmInstr (f : AluOp) : (aluImmInstr f).kind = .aluImm f := by cases f <;> rfl
@[simp] theorem kind_ld16Instr (r : R16) : (ld16Instr r).kind = .ld16 r := by cases r <;> rfl
@[simp] theorem kind_inc16Instr (r : R16) : (inc16Instr r).kind = .inc16 r := by cases r <;> rfl
@[simp] theorem kind_dec16Instr (r : R16) : (dec16Instr r).kind = .dec16 r := by cases r <;> rfl
@[simp] theorem kind_addHLInstr (r : R16) : (addHLInstr r).kind = .addHL r := by cases r <;> rfl
@[simp] theorem kind_pushInstr (r : R16S) : (pushInstr r).kind = .push r := by cases r <;> rfl
@[simp] theorem kind_popInstr (r : R16S) : (popInstr r).kind = .pop r := by cases r <;> rfl
@[simp] theorem kind_staInstr (v : MemView) : (staInstr v).kind = .sta v := by cases v <;> rfl
@[simp] theorem kind_ldaInstr (v : MemView) : (ldaInstr v).kind = .lda v := by cases v <;> rfl
@[simp] theorem kind_jpccInstr (cc : Cond) : (jpccInstr cc).kind = .jpcc cc := by cases cc <;> rfl
@[simp] theorem kind_jrccInstr (cc : Cond) : (jrccInstr cc).kind = .jrcc cc := by cases cc <;> rfl
@[simp] theorem kind_callccInstr (cc : Cond) : (callccInstr cc).kind = .callcc cc := by cases cc <;> rfl
@[simp] theorem kind_retccInstr (cc : Cond) : (retccInstr cc).kind = .retcc cc := by cases cc <;> rfl
@[simp] theorem kind_rstInstr (t : BitVec 3) : (rstInstr t).kind = .rst t :=
  forall_index3 (P := fun t => (rstInstr t).kind = .rst t) ⟨rfl, rfl, rfl, rfl, rfl, rfl, rfl, rfl⟩ t

@[simp] theorem kind_toInstr (x : ExtOp) : x.toInstr.kind = .ext x := by
  cases x with
  | rot o z => cases o <;> cases z <;> rfl
  | bit b z =>
    cases z <;> exact forall_index3 (P := fun b => (ExtOp.toInstr (.bit b _)).kind = .ext (.bit b _))
      ⟨rfl, rfl, rfl, rfl, rfl, rfl, rfl, rfl⟩ b
  | res b z =>
    cases z <;> exact forall_index3 (P := fun b => (ExtOp.toInstr (.res b _)).kind = .ext (.res b _))
      ⟨rfl, rfl, rfl, rfl, rfl, rfl, rfl, rfl⟩ b
  | set b z =>
    cases z <;> exact forall_index3 (P := fun b => (ExtOp.toInstr (.set b _)).kind = .ext (.set b _))
      ⟨rfl, rfl, rfl, rfl, rfl, rfl, rfl, rfl⟩ b

@[simp] theorem kind_rotInstr (o : RotOp) (z : R8) : (rotInstr o z).kind = .ext (.rot o z) := kind_toInstr (.rot o z)
@[simp] theorem kind_bitInstr (b : BitVec 3) (z : R8) : (bitInstr b z).kind = .ext (.bit b z) :=
  kind_toInstr (.bit b z)
@[simp] theorem kind_resInstr (b : BitVec 3) (z : R8) : (resInstr b z).kind = .ext (.res b z) :=
  kind_toInstr (.res b z)
@[simp] theorem kind_setInstr (b : BitVec 3) (z : R8) : (setInstr b z).kind = .ext (.set b z) :=
  kind_toInstr (.set b z)

/-- Running the escape is running the extended instruction its operand byte denotes (45_extended.md R200), seen from the
decoded forms. -/
theorem runKind_escape (s : State) : runKind .escape s = runKind (.ext (extFields (s.byteAt s.pc))) (s.advance 1) := rfl

end Sys2Proof.Machine
end

