-- ==== Sys2Proof/Laws/Families.lean ====
section
/-! SUPPORT. What the shared operations of the families answer when their 16-bit access succeeds, the state written out;
and what a family leaves in A and the flags. -/

namespace Sys2Proof.Machine

variable {s t : State}

/-! ## A state with its own registers -/

@[simp] theorem advance_zero (s : State) : s.advance 0 = s := by simp [State.advance, State.setPC]

/-- HL as a number: the view of 10_state.md R15. -/
theorem toNat_hl (s : State) : s.hl.toNat = s.h.toNat * 256 + s.l.toNat := by
  simp [State.hl, State.pair, toNat_mkWord, State.cell]

/-! ## 16-bit loads, push and pop -/

theorem load16_of_ne (r : R16) (h : s.pc ≠ 0xFFFF#16) :
    load16 r s = .next (writeR16 r (mkWord (s.byteAt (s.pc + 1#16)) (s.byteAt s.pc)) (s.advance 2)) := by
  simp [load16, fetch16_of_ne h]

theorem pushPair_of_ne (r : R16S) (h : s.sp ≠ 0x0001#16) :
    pushPair r s = .next (((s.setSP (s.sp + 65534#16)).setByte (s.sp + 65534#16) (loByte (readR16S r s))).setByte
      (s.sp + 65535#16) (hiByte (readR16S r s))) := push16_of_ne _ h

theorem popPair_of_ne (r : R16S) (h : s.sp ≠ 0xFFFF#16) :
    popPair r s = .next (writeR16S r (mkWord (s.byteAt (s.sp + 1#16)) (s.byteAt s.sp)) (s.setSP (s.sp + 2#16))) := by
  simp [popPair, pop16_of_ne h]

/-- The two addresses a push writes are distinct. -/
theorem pushSlots_ne (v : Word) : v + 65535#16 ≠ v + 65534#16 := by
  have h := word_ne_succ (v + 65534#16)
  rwa [pushSlot_succ] at h

/-! ## Control transfer -/

theorem jumpAbsolute_of_ne (h : s.pc ≠ 0xFFFF#16) :
    jumpAbsolute s = .next (s.setPC (mkWord (s.byteAt (s.pc + 1#16)) (s.byteAt s.pc))) := by
  simp [jumpAbsolute, fetch16_of_ne h, State.advance, State.setPC]

theorem popPC_of_ne (h : s.sp ≠ 0xFFFF#16) :
    popPC s = .next ((s.setSP (s.sp + 2#16)).setPC (mkWord (s.byteAt (s.sp + 1#16)) (s.byteAt s.sp))) := by
  simp [popPC, pop16_of_ne h]

theorem restart_of_push (x : BitVec 3) (h : push16 s.pc s = .next t) :
    restart x s = .next (t.setPC (BitVec.ofNat 16 (8 * x.toNat))) := by
  simp [restart, h]

/-- A push moves no `pc`. -/
theorem pc_of_push16 {v : Word} (h : push16 v s = .next t) : t.pc = s.pc := by
  by_cases h' : s.sp = 0x0001#16
  · simp [push16_top v h'] at h
  · rw [push16_of_ne v h'] at h
    injection h with h
    rw [← h]
    simp

/-- A call whose push succeeds reads its target from memory as it is after the push. -/
theorem callAbsolute_of_push (hp : s.pc ≠ 0xFFFF#16) (h : push16 (s.pc + 2#16) s = .next t) :
    callAbsolute s = .next (t.setPC (mkWord (t.byteAt (s.pc + 1#16)) (t.byteAt s.pc))) := by
  simp only [callAbsolute, h, andThen_next]
  rw [pc_of_push16 h, wordAt_of_ne hp, andThen_next]

/-- A conditional instruction, by its condition. -/
theorem ifTaken_eq_next {cc : Cond} {effect : State → Result} {n : Nat} (h : ifTaken cc effect n s = .next t) :
    (condHolds cc s.flags = true ∧ effect s = .next t) ∨ (condHolds cc s.flags = false ∧ t = s.advance n) := by
  unfold ifTaken at h
  split at h
  · next hc => exact .inl ⟨hc, h⟩
  · next hc => injection h with h; exact .inr ⟨by simpa using hc, h.symm⟩

theorem ifTaken_of_true {cc : Cond} (effect : State → Result) (n : Nat) (h : condHolds cc s.flags = true) :
    ifTaken cc effect n s = effect s := if_pos h

theorem ifTaken_of_false {cc : Cond} (effect : State → Result) (n : Nat) (h : condHolds cc s.flags = false) :
    ifTaken cc effect n s = .next (s.advance n) := if_neg (by simp [h])

/-- The instructions that have a condition are the four conditional families (40_step.md R93). -/
theorem condOf_cases (i : Instr) : condOf i = none ∨ ∃ cc, condOf i = some cc ∧
    (i = jrccInstr cc ∨ i = jpccInstr cc ∨ i = callccInstr cc ∨ i = retccInstr cc) := by
  cases i <;> first | exact .inl rfl | exact .inr ⟨_, rfl, by decide⟩

theorem conditional_of_condOf (i : Instr) (cc : Cond) (h : condOf i = some cc) :
    i = jrccInstr cc ∨ i = jpccInstr cc ∨ i = callccInstr cc ∨ i = retccInstr cc := by
  rcases condOf_cases i with h' | ⟨cc', h', hi⟩
  · simp [h'] at h
  · rw [h'] at h
    injection h with h
    rwa [← h]

/-! ## The arithmetic and logic families -/

theorem a_aluApply (f : AluOp) (v : Byte) (s : State) :
    (aluApply f v s).a = if aluWritesA f then (aluResult f s.a v s.flags.c).1 else s.a := by
  cases f <;> rfl

@[simp] theorem flags_aluApply (f : AluOp) (v : Byte) (s : State) :
    (aluApply f v s).flags = (aluResult f s.a v s.flags.c).2 := rfl

@[simp] theorem sp_aluApply (f : AluOp) (v : Byte) (s : State) : (aluApply f v s).sp = s.sp := by cases f <;> rfl
@[simp] theorem pc_aluApply (f : AluOp) (v : Byte) (s : State) : (aluApply f v s).pc = s.pc := by cases f <;> rfl
@[simp] theorem cyc_aluApply (f : AluOp) (v : Byte) (s : State) : (aluApply f v s).cyc = s.cyc := by cases f <;> rfl
@[simp] theorem mem_aluApply (f : AluOp) (v : Byte) (s : State) : (aluApply f v s).mem = s.mem := by cases f <;> rfl
@[simp] theorem byteAt_aluApply (f : AluOp) (v : Byte) (s : State) (a : Word) :
    (aluApply f v s).byteAt a = s.byteAt a := by simp [State.byteAt]

theorem keepsCells_aluApply (f : AluOp) (v : Byte) (s : State) : KeepsCells [.a] s (aluApply f v s) := by
  intro x hx
  cases x <;> first | exact absurd (List.mem_singleton.mpr rfl) hx | (cases f <;> rfl)

/-- Every form of a family applies it to its operand, with `pc` past the operand bytes. -/
theorem exec_aluForm {f : AluOp} {i : Instr} {v : Byte} {n : Nat} (h : AluForm f s i v n) :
    exec i s = .next (aluApply f v (s.advance n)) := by
  rcases h with ⟨z, rfl, rfl, rfl⟩ | ⟨rfl, rfl, rfl⟩
  · rw [exec_eq_runKind, kind_aluInstr, advance_zero]
    rfl
  · rw [exec_eq_runKind, kind_aluImmInstr]
    rfl

/-! ## The extended operations -/

/-- An extended instruction never fails (45_extended.md R200). -/
theorem runExt_completes (x : ExtOp) (s : State) : ∃ t, runExt x s = .next t := by
  cases x with
  | rot o z => exact ⟨_, rfl⟩
  | bit b z => exact ⟨_, rfl⟩
  | res b z => exact ⟨_, rfl⟩
  | set b z => exact ⟨_, rfl⟩

/-- An extended instruction moves neither SP nor `pc` nor the counter (45_extended.md R202). -/
theorem runExt_keeps {x : ExtOp} (h : runExt x s = .next t) : t.sp = s.sp ∧ t.pc = s.pc ∧ t.cyc = s.cyc := by
  cases x with
  | rot o z => simp only [runExt, rotateOperand] at h; injection h with h; subst h; simp
  | bit b z => simp only [runExt, testBit] at h; injection h with h; subst h; simp
  | res b z => simp only [runExt, resetBit] at h; injection h with h; subst h; simp
  | set b z => simp only [runExt, setBit] at h; injection h with h; subst h; simp

end Sys2Proof.Machine
end

