-- ==== Sys2Proof/Laws/PerInstr.lean ====
section
/-! SUPPORT. Laws made per instruction: one lemma per constructor of `Instr`. -/

namespace Sys2Proof.Laws

/-! ## FormatLength: the opcode bytes and the operand bytes are the whole instruction (30_encoding.md R61, R62) -/

/-- The encoded opcode bytes of a well-formed instruction and its operand bytes add up to the length of its format. -/
def FormatLength.Statement (i : Instr) : Prop :=
  i.wellFormed = true → (encode i).length + i.operandBytes = i.length

theorem FormatLength.nop : FormatLength.Statement .nop := fun _ => rfl
theorem FormatLength.ld_BC_d16 : FormatLength.Statement .ld_BC_d16 := fun _ => rfl
theorem FormatLength.ld_mBC_A : FormatLength.Statement .ld_mBC_A := fun _ => rfl
theorem FormatLength.inc_BC : FormatLength.Statement .inc_BC := fun _ => rfl
theorem FormatLength.inc_B : FormatLength.Statement .inc_B := fun _ => rfl
theorem FormatLength.dec_B : FormatLength.Statement .dec_B := fun _ => rfl
theorem FormatLength.ld_B_d8 : FormatLength.Statement .ld_B_d8 := fun _ => rfl
theorem FormatLength.rlca : FormatLength.Statement .rlca := fun _ => rfl
theorem FormatLength.ld_ma16_SP : FormatLength.Statement .ld_ma16_SP := fun _ => rfl
theorem FormatLength.add_HL_BC : FormatLength.Statement .add_HL_BC := fun _ => rfl
theorem FormatLength.ld_A_mBC : FormatLength.Statement .ld_A_mBC := fun _ => rfl
theorem FormatLength.dec_BC : FormatLength.Statement .dec_BC := fun _ => rfl
theorem FormatLength.inc_C : FormatLength.Statement .inc_C := fun _ => rfl
theorem FormatLength.dec_C : FormatLength.Statement .dec_C := fun _ => rfl
theorem FormatLength.ld_C_d8 : FormatLength.Statement .ld_C_d8 := fun _ => rfl
theorem FormatLength.rrca : FormatLength.Statement .rrca := fun _ => rfl
theorem FormatLength.stop : FormatLength.Statement .stop := fun _ => rfl
theorem FormatLength.ld_DE_d16 : FormatLength.Statement .ld_DE_d16 := fun _ => rfl
theorem FormatLength.ld_mDE_A : FormatLength.Statement .ld_mDE_A := fun _ => rfl
theorem FormatLength.inc_DE : FormatLength.Statement .inc_DE := fun _ => rfl
theorem FormatLength.inc_D : FormatLength.Statement .inc_D := fun _ => rfl
theorem FormatLength.dec_D : FormatLength.Statement .dec_D := fun _ => rfl
theorem FormatLength.ld_D_d8 : FormatLength.Statement .ld_D_d8 := fun _ => rfl
theorem FormatLength.rla : FormatLength.Statement .rla := fun _ => rfl
theorem FormatLength.jr_r8 : FormatLength.Statement .jr_r8 := fun _ => rfl
theorem FormatLength.add_HL_DE : FormatLength.Statement .add_HL_DE := fun _ => rfl
theorem FormatLength.ld_A_mDE : FormatLength.Statement .ld_A_mDE := fun _ => rfl
theorem FormatLength.dec_DE : FormatLength.Statement .dec_DE := fun _ => rfl
theorem FormatLength.inc_E : FormatLength.Statement .inc_E := fun _ => rfl
theorem FormatLength.dec_E : FormatLength.Statement .dec_E := fun _ => rfl
theorem FormatLength.ld_E_d8 : FormatLength.Statement .ld_E_d8 := fun _ => rfl
theorem FormatLength.rra : FormatLength.Statement .rra := fun _ => rfl
theorem FormatLength.jr_NZ_r8 : FormatLength.Statement .jr_NZ_r8 := fun _ => rfl
theorem FormatLength.ld_HL_d16 : FormatLength.Statement .ld_HL_d16 := fun _ => rfl
theorem FormatLength.ld_mHLI_A : FormatLength.Statement .ld_mHLI_A := fun _ => rfl
theorem FormatLength.inc_HL : FormatLength.Statement .inc_HL := fun _ => rfl
theorem FormatLength.inc_H : FormatLength.Statement .inc_H := fun _ => rfl
theorem FormatLength.dec_H : FormatLength.Statement .dec_H := fun _ => rfl
theorem FormatLength.ld_H_d8 : FormatLength.Statement .ld_H_d8 := fun _ => rfl
theorem FormatLength.daa : FormatLength.Statement .daa := fun _ => rfl
theorem FormatLength.jr_Z_r8 : FormatLength.Statement .jr_Z_r8 := fun _ => rfl
theorem FormatLength.add_HL_HL : FormatLength.Statement .add_HL_HL := fun _ => rfl
theorem FormatLength.ld_A_mHLI : FormatLength.Statement .ld_A_mHLI := fun _ => rfl
theorem FormatLength.dec_HL : FormatLength.Statement .dec_HL := fun _ => rfl
theorem FormatLength.inc_L : FormatLength.Statement .inc_L := fun _ => rfl
theorem FormatLength.dec_L : FormatLength.Statement .dec_L := fun _ => rfl
theorem FormatLength.ld_L_d8 : FormatLength.Statement .ld_L_d8 := fun _ => rfl
theorem FormatLength.cpl : FormatLength.Statement .cpl := fun _ => rfl
theorem FormatLength.jr_NC_r8 : FormatLength.Statement .jr_NC_r8 := fun _ => rfl
theorem FormatLength.ld_SP_d16 : FormatLength.Statement .ld_SP_d16 := fun _ => rfl
theorem FormatLength.ld_mHLD_A : FormatLength.Statement .ld_mHLD_A := fun _ => rfl
theorem FormatLength.inc_SP : FormatLength.Statement .inc_SP := fun _ => rfl
theorem FormatLength.inc_mHL : FormatLength.Statement .inc_mHL := fun _ => rfl
theorem FormatLength.dec_mHL : FormatLength.Statement .dec_mHL := fun _ => rfl
theorem FormatLength.ld_mHL_d8 : FormatLength.Statement .ld_mHL_d8 := fun _ => rfl
theorem FormatLength.scf : FormatLength.Statement .scf := fun _ => rfl
theorem FormatLength.jr_C_r8 : FormatLength.Statement .jr_C_r8 := fun _ => rfl
theorem FormatLength.add_HL_SP : FormatLength.Statement .add_HL_SP := fun _ => rfl
theorem FormatLength.ld_A_mHLD : FormatLength.Statement .ld_A_mHLD := fun _ => rfl
theorem FormatLength.dec_SP : FormatLength.Statement .dec_SP := fun _ => rfl
theorem FormatLength.inc_A : FormatLength.Statement .inc_A := fun _ => rfl
theorem FormatLength.dec_A : FormatLength.Statement .dec_A := fun _ => rfl
theorem FormatLength.ld_A_d8 : FormatLength.Statement .ld_A_d8 := fun _ => rfl
theorem FormatLength.ccf : FormatLength.Statement .ccf := fun _ => rfl
theorem FormatLength.ld_B_B : FormatLength.Statement .ld_B_B := fun _ => rfl
theorem FormatLength.ld_B_C : FormatLength.Statement .ld_B_C := fun _ => rfl
theorem FormatLength.ld_B_D : FormatLength.Statement .ld_B_D := fun _ => rfl
theorem FormatLength.ld_B_E : FormatLength.Statement .ld_B_E := fun _ => rfl
theorem FormatLength.ld_B_H : FormatLength.Statement .ld_B_H := fun _ => rfl
theorem FormatLength.ld_B_L : FormatLength.Statement .ld_B_L := fun _ => rfl
theorem FormatLength.ld_B_mHL : FormatLength.Statement .ld_B_mHL := fun _ => rfl
theorem FormatLength.ld_B_A : FormatLength.Statement .ld_B_A := fun _ => rfl
theorem FormatLength.ld_C_B : FormatLength.Statement .ld_C_B := fun _ => rfl
theorem FormatLength.ld_C_C : FormatLength.Statement .ld_C_C := fun _ => rfl
theorem FormatLength.ld_C_D : FormatLength.Statement .ld_C_D := fun _ => rfl
theorem FormatLength.ld_C_E : FormatLength.Statement .ld_C_E := fun _ => rfl
theorem FormatLength.ld_C_H : FormatLength.Statement .ld_C_H := fun _ => rfl
theorem FormatLength.ld_C_L : FormatLength.Statement .ld_C_L := fun _ => rfl
theorem FormatLength.ld_C_mHL : FormatLength.Statement .ld_C_mHL := fun _ => rfl
theorem FormatLength.ld_C_A : FormatLength.Statement .ld_C_A := fun _ => rfl
theorem FormatLength.ld_D_B : FormatLength.Statement .ld_D_B := fun _ => rfl
theorem FormatLength.ld_D_C : FormatLength.Statement .ld_D_C := fun _ => rfl
theorem FormatLength.ld_D_D : FormatLength.Statement .ld_D_D := fun _ => rfl
theorem FormatLength.ld_D_E : FormatLength.Statement .ld_D_E := fun _ => rfl
theorem FormatLength.ld_D_H : FormatLength.Statement .ld_D_H := fun _ => rfl
theorem FormatLength.ld_D_L : FormatLength.Statement .ld_D_L := fun _ => rfl
theorem FormatLength.ld_D_mHL : FormatLength.Statement .ld_D_mHL := fun _ => rfl
theorem FormatLength.ld_D_A : FormatLength.Statement .ld_D_A := fun _ => rfl
theorem FormatLength.ld_E_B : FormatLength.Statement .ld_E_B := fun _ => rfl
theorem FormatLength.ld_E_C : FormatLength.Statement .ld_E_C := fun _ => rfl
theorem FormatLength.ld_E_D : FormatLength.Statement .ld_E_D := fun _ => rfl
theorem FormatLength.ld_E_E : FormatLength.Statement .ld_E_E := fun _ => rfl
theorem FormatLength.ld_E_H : FormatLength.Statement .ld_E_H := fun _ => rfl
theorem FormatLength.ld_E_L : FormatLength.Statement .ld_E_L := fun _ => rfl
theorem FormatLength.ld_E_mHL : FormatLength.Statement .ld_E_mHL := fun _ => rfl
theorem FormatLength.ld_E_A : FormatLength.Statement .ld_E_A := fun _ => rfl
theorem FormatLength.ld_H_B : FormatLength.Statement .ld_H_B := fun _ => rfl
theorem FormatLength.ld_H_C : FormatLength.Statement .ld_H_C := fun _ => rfl
theorem FormatLength.ld_H_D : FormatLength.Statement .ld_H_D := fun _ => rfl
theorem FormatLength.ld_H_E : FormatLength.Statement .ld_H_E := fun _ => rfl
theorem FormatLength.ld_H_H : FormatLength.Statement .ld_H_H := fun _ => rfl
theorem FormatLength.ld_H_L : FormatLength.Statement .ld_H_L := fun _ => rfl
theorem FormatLength.ld_H_mHL : FormatLength.Statement .ld_H_mHL := fun _ => rfl
theorem FormatLength.ld_H_A : FormatLength.Statement .ld_H_A := fun _ => rfl
theorem FormatLength.ld_L_B : FormatLength.Statement .ld_L_B := fun _ => rfl
theorem FormatLength.ld_L_C : FormatLength.Statement .ld_L_C := fun _ => rfl
theorem FormatLength.ld_L_D : FormatLength.Statement .ld_L_D := fun _ => rfl
theorem FormatLength.ld_L_E : FormatLength.Statement .ld_L_E := fun _ => rfl
theorem FormatLength.ld_L_H : FormatLength.Statement .ld_L_H := fun _ => rfl
theorem FormatLength.ld_L_L : FormatLength.Statement .ld_L_L := fun _ => rfl
theorem FormatLength.ld_L_mHL : FormatLength.Statement .ld_L_mHL := fun _ => rfl
theorem FormatLength.ld_L_A : FormatLength.Statement .ld_L_A := fun _ => rfl
theorem FormatLength.ld_mHL_B : FormatLength.Statement .ld_mHL_B := fun _ => rfl
theorem FormatLength.ld_mHL_C : FormatLength.Statement .ld_mHL_C := fun _ => rfl
theorem FormatLength.ld_mHL_D : FormatLength.Statement .ld_mHL_D := fun _ => rfl
theorem FormatLength.ld_mHL_E : FormatLength.Statement .ld_mHL_E := fun _ => rfl
theorem FormatLength.ld_mHL_H : FormatLength.Statement .ld_mHL_H := fun _ => rfl
theorem FormatLength.ld_mHL_L : FormatLength.Statement .ld_mHL_L := fun _ => rfl
theorem FormatLength.halt : FormatLength.Statement .halt := fun _ => rfl
theorem FormatLength.ld_mHL_A : FormatLength.Statement .ld_mHL_A := fun _ => rfl
theorem FormatLength.ld_A_B : FormatLength.Statement .ld_A_B := fun _ => rfl
theorem FormatLength.ld_A_C : FormatLength.Statement .ld_A_C := fun _ => rfl
theorem FormatLength.ld_A_D : FormatLength.Statement .ld_A_D := fun _ => rfl
theorem FormatLength.ld_A_E : FormatLength.Statement .ld_A_E := fun _ => rfl
theorem FormatLength.ld_A_H : FormatLength.Statement .ld_A_H := fun _ => rfl
theorem FormatLength.ld_A_L : FormatLength.Statement .ld_A_L := fun _ => rfl
theorem FormatLength.ld_A_mHL : FormatLength.Statement .ld_A_mHL := fun _ => rfl
theorem FormatLength.ld_A_A : FormatLength.Statement .ld_A_A := fun _ => rfl
theorem FormatLength.add_A_B : FormatLength.Statement .add_A_B := fun _ => rfl
theorem FormatLength.add_A_C : FormatLength.Statement .add_A_C := fun _ => rfl
theorem FormatLength.add_A_D : FormatLength.Statement .add_A_D := fun _ => rfl
theorem FormatLength.add_A_E : FormatLength.Statement .add_A_E := fun _ => rfl
theorem FormatLength.add_A_H : FormatLength.Statement .add_A_H := fun _ => rfl
theorem FormatLength.add_A_L : FormatLength.Statement .add_A_L := fun _ => rfl
theorem FormatLength.add_A_mHL : FormatLength.Statement .add_A_mHL := fun _ => rfl
theorem FormatLength.add_A_A : FormatLength.Statement .add_A_A := fun _ => rfl
theorem FormatLength.adc_A_B : FormatLength.Statement .adc_A_B := fun _ => rfl
theorem FormatLength.adc_A_C : FormatLength.Statement .adc_A_C := fun _ => rfl
theorem FormatLength.adc_A_D : FormatLength.Statement .adc_A_D := fun _ => rfl
theorem FormatLength.adc_A_E : FormatLength.Statement .adc_A_E := fun _ => rfl
theorem FormatLength.adc_A_H : FormatLength.Statement .adc_A_H := fun _ => rfl
theorem FormatLength.adc_A_L : FormatLength.Statement .adc_A_L := fun _ => rfl
theorem FormatLength.adc_A_mHL : FormatLength.Statement .adc_A_mHL := fun _ => rfl
theorem FormatLength.adc_A_A : FormatLength.Statement .adc_A_A := fun _ => rfl
theorem FormatLength.sub_B : FormatLength.Statement .sub_B := fun _ => rfl
theorem FormatLength.sub_C : FormatLength.Statement .sub_C := fun _ => rfl
theorem FormatLength.sub_D : FormatLength.Statement .sub_D := fun _ => rfl
theorem FormatLength.sub_E : FormatLength.Statement .sub_E := fun _ => rfl
theorem FormatLength.sub_H : FormatLength.Statement .sub_H := fun _ => rfl
theorem FormatLength.sub_L : FormatLength.Statement .sub_L := fun _ => rfl
theorem FormatLength.sub_mHL : FormatLength.Statement .sub_mHL := fun _ => rfl
theorem FormatLength.sub_A : FormatLength.Statement .sub_A := fun _ => rfl
theorem FormatLength.sbc_A_B : FormatLength.Statement .sbc_A_B := fun _ => rfl
theorem FormatLength.sbc_A_C : FormatLength.Statement .sbc_A_C := fun _ => rfl
theorem FormatLength.sbc_A_D : FormatLength.Statement .sbc_A_D := fun _ => rfl
theorem FormatLength.sbc_A_E : FormatLength.Statement .sbc_A_E := fun _ => rfl
theorem FormatLength.sbc_A_H : FormatLength.Statement .sbc_A_H := fun _ => rfl
theorem FormatLength.sbc_A_L : FormatLength.Statement .sbc_A_L := fun _ => rfl
theorem FormatLength.sbc_A_mHL : FormatLength.Statement .sbc_A_mHL := fun _ => rfl
theorem FormatLength.sbc_A_A : FormatLength.Statement .sbc_A_A := fun _ => rfl
theorem FormatLength.and_B : FormatLength.Statement .and_B := fun _ => rfl
theorem FormatLength.and_C : FormatLength.Statement .and_C := fun _ => rfl
theorem FormatLength.and_D : FormatLength.Statement .and_D := fun _ => rfl
theorem FormatLength.and_E : FormatLength.Statement .and_E := fun _ => rfl
theorem FormatLength.and_H : FormatLength.Statement .and_H := fun _ => rfl
theorem FormatLength.and_L : FormatLength.Statement .and_L := fun _ => rfl
theorem FormatLength.and_mHL : FormatLength.Statement .and_mHL := fun _ => rfl
theorem FormatLength.and_A : FormatLength.Statement .and_A := fun _ => rfl
theorem FormatLength.xor_B : FormatLength.Statement .xor_B := fun _ => rfl
theorem FormatLength.xor_C : FormatLength.Statement .xor_C := fun _ => rfl
theorem FormatLength.xor_D : FormatLength.Statement .xor_D := fun _ => rfl
theorem FormatLength.xor_E : FormatLength.Statement .xor_E := fun _ => rfl
theorem FormatLength.xor_H : FormatLength.Statement .xor_H := fun _ => rfl
theorem FormatLength.xor_L : FormatLength.Statement .xor_L := fun _ => rfl
theorem FormatLength.xor_mHL : FormatLength.Statement .xor_mHL := fun _ => rfl
theorem FormatLength.xor_A : FormatLength.Statement .xor_A := fun _ => rfl
theorem FormatLength.or_B : FormatLength.Statement .or_B := fun _ => rfl
theorem FormatLength.or_C : FormatLength.Statement .or_C := fun _ => rfl
theorem FormatLength.or_D : FormatLength.Statement .or_D := fun _ => rfl
theorem FormatLength.or_E : FormatLength.Statement .or_E := fun _ => rfl
theorem FormatLength.or_H : FormatLength.Statement .or_H := fun _ => rfl
theorem FormatLength.or_L : FormatLength.Statement .or_L := fun _ => rfl
theorem FormatLength.or_mHL : FormatLength.Statement .or_mHL := fun _ => rfl
theorem FormatLength.or_A : FormatLength.Statement .or_A := fun _ => rfl
theorem FormatLength.cp_B : FormatLength.Statement .cp_B := fun _ => rfl
theorem FormatLength.cp_C : FormatLength.Statement .cp_C := fun _ => rfl
theorem FormatLength.cp_D : FormatLength.Statement .cp_D := fun _ => rfl
theorem FormatLength.cp_E : FormatLength.Statement .cp_E := fun _ => rfl
theorem FormatLength.cp_H : FormatLength.Statement .cp_H := fun _ => rfl
theorem FormatLength.cp_L : FormatLength.Statement .cp_L := fun _ => rfl
theorem FormatLength.cp_mHL : FormatLength.Statement .cp_mHL := fun _ => rfl
theorem FormatLength.cp_A : FormatLength.Statement .cp_A := fun _ => rfl
theorem FormatLength.ret_NZ : FormatLength.Statement .ret_NZ := fun _ => rfl
theorem FormatLength.pop_BC : FormatLength.Statement .pop_BC := fun _ => rfl
theorem FormatLength.jp_NZ_a16 : FormatLength.Statement .jp_NZ_a16 := fun _ => rfl
theorem FormatLength.jp_a16 : FormatLength.Statement .jp_a16 := fun _ => rfl
theorem FormatLength.call_NZ_a16 : FormatLength.Statement .call_NZ_a16 := fun _ => rfl
theorem FormatLength.push_BC : FormatLength.Statement .push_BC := fun _ => rfl
theorem FormatLength.add_A_d8 : FormatLength.Statement .add_A_d8 := fun _ => rfl
theorem FormatLength.rst_00H : FormatLength.Statement .rst_00H := fun _ => rfl
theorem FormatLength.ret_Z : FormatLength.Statement .ret_Z := fun _ => rfl
theorem FormatLength.ret : FormatLength.Statement .ret := fun _ => rfl
theorem FormatLength.jp_Z_a16 : FormatLength.Statement .jp_Z_a16 := fun _ => rfl
theorem FormatLength.prefix_CB : FormatLength.Statement .prefix_CB := fun h => Bool.noConfusion h
theorem FormatLength.call_Z_a16 : FormatLength.Statement .call_Z_a16 := fun _ => rfl
theorem FormatLength.call_a16 : FormatLength.Statement .call_a16 := fun _ => rfl
theorem FormatLength.adc_A_d8 : FormatLength.Statement .adc_A_d8 := fun _ => rfl
theorem FormatLength.rst_08H : FormatLength.Statement .rst_08H := fun _ => rfl
theorem FormatLength.ret_NC : FormatLength.Statement .ret_NC := fun _ => rfl
theorem FormatLength.pop_DE : FormatLength.Statement .pop_DE := fun _ => rfl
theorem FormatLength.jp_NC_a16 : FormatLength.Statement .jp_NC_a16 := fun _ => rfl
theorem FormatLength.unsupported_D3 : FormatLength.Statement .unsupported_D3 := fun h => Bool.noConfusion h
theorem FormatLength.call_NC_a16 : FormatLength.Statement .call_NC_a16 := fun _ => rfl
theorem FormatLength.push_DE : FormatLength.Statement .push_DE := fun _ => rfl
theorem FormatLength.sub_d8 : FormatLength.Statement .sub_d8 := fun _ => rfl
theorem FormatLength.rst_10H : FormatLength.Statement .rst_10H := fun _ => rfl
theorem FormatLength.ret_C : FormatLength.Statement .ret_C := fun _ => rfl
theorem FormatLength.reti : FormatLength.Statement .reti := fun _ => rfl
theorem FormatLength.jp_C_a16 : FormatLength.Statement .jp_C_a16 := fun _ => rfl
theorem FormatLength.unsupported_DB : FormatLength.Statement .unsupported_DB := fun h => Bool.noConfusion h
theorem FormatLength.call_C_a16 : FormatLength.Statement .call_C_a16 := fun _ => rfl
theorem FormatLength.unsupported_DD : FormatLength.Statement .unsupported_DD := fun h => Bool.noConfusion h
theorem FormatLength.sbc_A_d8 : FormatLength.Statement .sbc_A_d8 := fun _ => rfl
theorem FormatLength.rst_18H : FormatLength.Statement .rst_18H := fun _ => rfl
theorem FormatLength.ldh_ma8_A : FormatLength.Statement .ldh_ma8_A := fun _ => rfl
theorem FormatLength.pop_HL : FormatLength.Statement .pop_HL := fun _ => rfl
theorem FormatLength.ld_mC_A : FormatLength.Statement .ld_mC_A := fun _ => rfl
theorem FormatLength.unsupported_E3 : FormatLength.Statement .unsupported_E3 := fun h => Bool.noConfusion h
theorem FormatLength.unsupported_E4 : FormatLength.Statement .unsupported_E4 := fun h => Bool.noConfusion h
theorem FormatLength.push_HL : FormatLength.Statement .push_HL := fun _ => rfl
theorem FormatLength.and_d8 : FormatLength.Statement .and_d8 := fun _ => rfl
theorem FormatLength.rst_20H : FormatLength.Statement .rst_20H := fun _ => rfl
theorem FormatLength.add_SP_r8 : FormatLength.Statement .add_SP_r8 := fun _ => rfl
theorem FormatLength.jp_mHL : FormatLength.Statement .jp_mHL := fun _ => rfl
theorem FormatLength.ld_ma16_A : FormatLength.Statement .ld_ma16_A := fun _ => rfl
theorem FormatLength.unsupported_EB : FormatLength.Statement .unsupported_EB := fun h => Bool.noConfusion h
theorem FormatLength.unsupported_EC : FormatLength.Statement .unsupported_EC := fun h => Bool.noConfusion h
theorem FormatLength.unsupported_ED : FormatLength.Statement .unsupported_ED := fun h => Bool.noConfusion h
theorem FormatLength.xor_d8 : FormatLength.Statement .xor_d8 := fun _ => rfl
theorem FormatLength.rst_28H : FormatLength.Statement .rst_28H := fun _ => rfl
theorem FormatLength.ldh_A_ma8 : FormatLength.Statement .ldh_A_ma8 := fun _ => rfl
theorem FormatLength.pop_AF : FormatLength.Statement .pop_AF := fun _ => rfl
theorem FormatLength.ld_A_mC : FormatLength.Statement .ld_A_mC := fun _ => rfl
theorem FormatLength.di : FormatLength.Statement .di := fun _ => rfl
theorem FormatLength.unsupported_F4 : FormatLength.Statement .unsupported_F4 := fun h => Bool.noConfusion h
theorem FormatLength.push_AF : FormatLength.Statement .push_AF := fun _ => rfl
theorem FormatLength.or_d8 : FormatLength.Statement .or_d8 := fun _ => rfl
theorem FormatLength.rst_30H : FormatLength.Statement .rst_30H := fun _ => rfl
theorem FormatLength.ld_HL_SPr8 : FormatLength.Statement .ld_HL_SPr8 := fun _ => rfl
theorem FormatLength.ld_SP_HL : FormatLength.Statement .ld_SP_HL := fun _ => rfl
theorem FormatLength.ld_A_ma16 : FormatLength.Statement .ld_A_ma16 := fun _ => rfl
theorem FormatLength.ei : FormatLength.Statement .ei := fun _ => rfl
theorem FormatLength.unsupported_FC : FormatLength.Statement .unsupported_FC := fun h => Bool.noConfusion h
theorem FormatLength.unsupported_FD : FormatLength.Statement .unsupported_FD := fun h => Bool.noConfusion h
theorem FormatLength.cp_d8 : FormatLength.Statement .cp_d8 := fun _ => rfl
theorem FormatLength.rst_38H : FormatLength.Statement .rst_38H := fun _ => rfl
theorem FormatLength.rlc_B : FormatLength.Statement .rlc_B := fun _ => rfl
theorem FormatLength.rlc_C : FormatLength.Statement .rlc_C := fun _ => rfl
theorem FormatLength.rlc_D : FormatLength.Statement .rlc_D := fun _ => rfl
theorem FormatLength.rlc_E : FormatLength.Statement .rlc_E := fun _ => rfl
theorem FormatLength.rlc_H : FormatLength.Statement .rlc_H := fun _ => rfl
theorem FormatLength.rlc_L : FormatLength.Statement .rlc_L := fun _ => rfl
theorem FormatLength.rlc_mHL : FormatLength.Statement .rlc_mHL := fun _ => rfl
theorem FormatLength.rlc_A : FormatLength.Statement .rlc_A := fun _ => rfl
theorem FormatLength.rrc_B : FormatLength.Statement .rrc_B := fun _ => rfl
theorem FormatLength.rrc_C : FormatLength.Statement .rrc_C := fun _ => rfl
theorem FormatLength.rrc_D : FormatLength.Statement .rrc_D := fun _ => rfl
theorem FormatLength.rrc_E : FormatLength.Statement .rrc_E := fun _ => rfl
theorem FormatLength.rrc_H : FormatLength.Statement .rrc_H := fun _ => rfl
theorem FormatLength.rrc_L : FormatLength.Statement .rrc_L := fun _ => rfl
theorem FormatLength.rrc_mHL : FormatLength.Statement .rrc_mHL := fun _ => rfl
theorem FormatLength.rrc_A : FormatLength.Statement .rrc_A := fun _ => rfl
theorem FormatLength.rl_B : FormatLength.Statement .rl_B := fun _ => rfl
theorem FormatLength.rl_C : FormatLength.Statement .rl_C := fun _ => rfl
theorem FormatLength.rl_D : FormatLength.Statement .rl_D := fun _ => rfl
theorem FormatLength.rl_E : FormatLength.Statement .rl_E := fun _ => rfl
theorem FormatLength.rl_H : FormatLength.Statement .rl_H := fun _ => rfl
theorem FormatLength.rl_L : FormatLength.Statement .rl_L := fun _ => rfl
theorem FormatLength.rl_mHL : FormatLength.Statement .rl_mHL := fun _ => rfl
theorem FormatLength.rl_A : FormatLength.Statement .rl_A := fun _ => rfl
theorem FormatLength.rr_B : FormatLength.Statement .rr_B := fun _ => rfl
theorem FormatLength.rr_C : FormatLength.Statement .rr_C := fun _ => rfl
theorem FormatLength.rr_D : FormatLength.Statement .rr_D := fun _ => rfl
theorem FormatLength.rr_E : FormatLength.Statement .rr_E := fun _ => rfl
theorem FormatLength.rr_H : FormatLength.Statement .rr_H := fun _ => rfl
theorem FormatLength.rr_L : FormatLength.Statement .rr_L := fun _ => rfl
theorem FormatLength.rr_mHL : FormatLength.Statement .rr_mHL := fun _ => rfl
theorem FormatLength.rr_A : FormatLength.Statement .rr_A := fun _ => rfl
theorem FormatLength.sla_B : FormatLength.Statement .sla_B := fun _ => rfl
theorem FormatLength.sla_C : FormatLength.Statement .sla_C := fun _ => rfl
theorem FormatLength.sla_D : FormatLength.Statement .sla_D := fun _ => rfl
theorem FormatLength.sla_E : FormatLength.Statement .sla_E := fun _ => rfl
theorem FormatLength.sla_H : FormatLength.Statement .sla_H := fun _ => rfl
theorem FormatLength.sla_L : FormatLength.Statement .sla_L := fun _ => rfl
theorem FormatLength.sla_mHL : FormatLength.Statement .sla_mHL := fun _ => rfl
theorem FormatLength.sla_A : FormatLength.Statement .sla_A := fun _ => rfl
theorem FormatLength.sra_B : FormatLength.Statement .sra_B := fun _ => rfl
theorem FormatLength.sra_C : FormatLength.Statement .sra_C := fun _ => rfl
theorem FormatLength.sra_D : FormatLength.Statement .sra_D := fun _ => rfl
theorem FormatLength.sra_E : FormatLength.Statement .sra_E := fun _ => rfl
theorem FormatLength.sra_H : FormatLength.Statement .sra_H := fun _ => rfl
theorem FormatLength.sra_L : FormatLength.Statement .sra_L := fun _ => rfl
theorem FormatLength.sra_mHL : FormatLength.Statement .sra_mHL := fun _ => rfl
theorem FormatLength.sra_A : FormatLength.Statement .sra_A := fun _ => rfl
theorem FormatLength.swap_B : FormatLength.Statement .swap_B := fun _ => rfl
theorem FormatLength.swap_C : FormatLength.Statement .swap_C := fun _ => rfl
theorem FormatLength.swap_D : FormatLength.Statement .swap_D := fun _ => rfl
theorem FormatLength.swap_E : FormatLength.Statement .swap_E := fun _ => rfl
theorem FormatLength.swap_H : FormatLength.Statement .swap_H := fun _ => rfl
theorem FormatLength.swap_L : FormatLength.Statement .swap_L := fun _ => rfl
theorem FormatLength.swap_mHL : FormatLength.Statement .swap_mHL := fun _ => rfl
theorem FormatLength.swap_A : FormatLength.Statement .swap_A := fun _ => rfl
theorem FormatLength.srl_B : FormatLength.Statement .srl_B := fun _ => rfl
theorem FormatLength.srl_C : FormatLength.Statement .srl_C := fun _ => rfl
theorem FormatLength.srl_D : FormatLength.Statement .srl_D := fun _ => rfl
theorem FormatLength.srl_E : FormatLength.Statement .srl_E := fun _ => rfl
theorem FormatLength.srl_H : FormatLength.Statement .srl_H := fun _ => rfl
theorem FormatLength.srl_L : FormatLength.Statement .srl_L := fun _ => rfl
theorem FormatLength.srl_mHL : FormatLength.Statement .srl_mHL := fun _ => rfl
theorem FormatLength.srl_A : FormatLength.Statement .srl_A := fun _ => rfl
theorem FormatLength.bit_0_B : FormatLength.Statement .bit_0_B := fun _ => rfl
theorem FormatLength.bit_0_C : FormatLength.Statement .bit_0_C := fun _ => rfl
theorem FormatLength.bit_0_D : FormatLength.Statement .bit_0_D := fun _ => rfl
theorem FormatLength.bit_0_E : FormatLength.Statement .bit_0_E := fun _ => rfl
theorem FormatLength.bit_0_H : FormatLength.Statement .bit_0_H := fun _ => rfl
theorem FormatLength.bit_0_L : FormatLength.Statement .bit_0_L := fun _ => rfl
theorem FormatLength.bit_0_mHL : FormatLength.Statement .bit_0_mHL := fun _ => rfl
theorem FormatLength.bit_0_A : FormatLength.Statement .bit_0_A := fun _ => rfl
theorem FormatLength.bit_1_B : FormatLength.Statement .bit_1_B := fun _ => rfl
theorem FormatLength.bit_1_C : FormatLength.Statement .bit_1_C := fun _ => rfl
theorem FormatLength.bit_1_D : FormatLength.Statement .bit_1_D := fun _ => rfl
theorem FormatLength.bit_1_E : FormatLength.Statement .bit_1_E := fun _ => rfl
theorem FormatLength.bit_1_H : FormatLength.Statement .bit_1_H := fun _ => rfl
theorem FormatLength.bit_1_L : FormatLength.Statement .bit_1_L := fun _ => rfl
theorem FormatLength.bit_1_mHL : FormatLength.Statement .bit_1_mHL := fun _ => rfl
theorem FormatLength.bit_1_A : FormatLength.Statement .bit_1_A := fun _ => rfl
theorem FormatLength.bit_2_B : FormatLength.Statement .bit_2_B := fun _ => rfl
theorem FormatLength.bit_2_C : FormatLength.Statement .bit_2_C := fun _ => rfl
theorem FormatLength.bit_2_D : FormatLength.Statement .bit_2_D := fun _ => rfl
theorem FormatLength.bit_2_E : FormatLength.Statement .bit_2_E := fun _ => rfl
theorem FormatLength.bit_2_H : FormatLength.Statement .bit_2_H := fun _ => rfl
theorem FormatLength.bit_2_L : FormatLength.Statement .bit_2_L := fun _ => rfl
theorem FormatLength.bit_2_mHL : FormatLength.Statement .bit_2_mHL := fun _ => rfl
theorem FormatLength.bit_2_A : FormatLength.Statement .bit_2_A := fun _ => rfl
theorem FormatLength.bit_3_B : FormatLength.Statement .bit_3_B := fun _ => rfl
theorem FormatLength.bit_3_C : FormatLength.Statement .bit_3_C := fun _ => rfl
theorem FormatLength.bit_3_D : FormatLength.Statement .bit_3_D := fun _ => rfl
theorem FormatLength.bit_3_E : FormatLength.Statement .bit_3_E := fun _ => rfl
theorem FormatLength.bit_3_H : FormatLength.Statement .bit_3_H := fun _ => rfl
theorem FormatLength.bit_3_L : FormatLength.Statement .bit_3_L := fun _ => rfl
theorem FormatLength.bit_3_mHL : FormatLength.Statement .bit_3_mHL := fun _ => rfl
theorem FormatLength.bit_3_A : FormatLength.Statement .bit_3_A := fun _ => rfl
theorem FormatLength.bit_4_B : FormatLength.Statement .bit_4_B := fun _ => rfl
theorem FormatLength.bit_4_C : FormatLength.Statement .bit_4_C := fun _ => rfl
theorem FormatLength.bit_4_D : FormatLength.Statement .bit_4_D := fun _ => rfl
theorem FormatLength.bit_4_E : FormatLength.Statement .bit_4_E := fun _ => rfl
theorem FormatLength.bit_4_H : FormatLength.Statement .bit_4_H := fun _ => rfl
theorem FormatLength.bit_4_L : FormatLength.Statement .bit_4_L := fun _ => rfl
theorem FormatLength.bit_4_mHL : FormatLength.Statement .bit_4_mHL := fun _ => rfl
theorem FormatLength.bit_4_A : FormatLength.Statement .bit_4_A := fun _ => rfl
theorem FormatLength.bit_5_B : FormatLength.Statement .bit_5_B := fun _ => rfl
theorem FormatLength.bit_5_C : FormatLength.Statement .bit_5_C := fun _ => rfl
theorem FormatLength.bit_5_D : FormatLength.Statement .bit_5_D := fun _ => rfl
theorem FormatLength.bit_5_E : FormatLength.Statement .bit_5_E := fun _ => rfl
theorem FormatLength.bit_5_H : FormatLength.Statement .bit_5_H := fun _ => rfl
theorem FormatLength.bit_5_L : FormatLength.Statement .bit_5_L := fun _ => rfl
theorem FormatLength.bit_5_mHL : FormatLength.Statement .bit_5_mHL := fun _ => rfl
theorem FormatLength.bit_5_A : FormatLength.Statement .bit_5_A := fun _ => rfl
theorem FormatLength.bit_6_B : FormatLength.Statement .bit_6_B := fun _ => rfl
theorem FormatLength.bit_6_C : FormatLength.Statement .bit_6_C := fun _ => rfl
theorem FormatLength.bit_6_D : FormatLength.Statement .bit_6_D := fun _ => rfl
theorem FormatLength.bit_6_E : FormatLength.Statement .bit_6_E := fun _ => rfl
theorem FormatLength.bit_6_H : FormatLength.Statement .bit_6_H := fun _ => rfl
theorem FormatLength.bit_6_L : FormatLength.Statement .bit_6_L := fun _ => rfl
theorem FormatLength.bit_6_mHL : FormatLength.Statement .bit_6_mHL := fun _ => rfl
theorem FormatLength.bit_6_A : FormatLength.Statement .bit_6_A := fun _ => rfl
theorem FormatLength.bit_7_B : FormatLength.Statement .bit_7_B := fun _ => rfl
theorem FormatLength.bit_7_C : FormatLength.Statement .bit_7_C := fun _ => rfl
theorem FormatLength.bit_7_D : FormatLength.Statement .bit_7_D := fun _ => rfl
theorem FormatLength.bit_7_E : FormatLength.Statement .bit_7_E := fun _ => rfl
theorem FormatLength.bit_7_H : FormatLength.Statement .bit_7_H := fun _ => rfl
theorem FormatLength.bit_7_L : FormatLength.Statement .bit_7_L := fun _ => rfl
theorem FormatLength.bit_7_mHL : FormatLength.Statement .bit_7_mHL := fun _ => rfl
theorem FormatLength.bit_7_A : FormatLength.Statement .bit_7_A := fun _ => rfl
theorem FormatLength.res_0_B : FormatLength.Statement .res_0_B := fun _ => rfl
theorem FormatLength.res_0_C : FormatLength.Statement .res_0_C := fun _ => rfl
theorem FormatLength.res_0_D : FormatLength.Statement .res_0_D := fun _ => rfl
theorem FormatLength.res_0_E : FormatLength.Statement .res_0_E := fun _ => rfl
theorem FormatLength.res_0_H : FormatLength.Statement .res_0_H := fun _ => rfl
theorem FormatLength.res_0_L : FormatLength.Statement .res_0_L := fun _ => rfl
theorem FormatLength.res_0_mHL : FormatLength.Statement .res_0_mHL := fun _ => rfl
theorem FormatLength.res_0_A : FormatLength.Statement .res_0_A := fun _ => rfl
theorem FormatLength.res_1_B : FormatLength.Statement .res_1_B := fun _ => rfl
theorem FormatLength.res_1_C : FormatLength.Statement .res_1_C := fun _ => rfl
theorem FormatLength.res_1_D : FormatLength.Statement .res_1_D := fun _ => rfl
theorem FormatLength.res_1_E : FormatLength.Statement .res_1_E := fun _ => rfl
theorem FormatLength.res_1_H : FormatLength.Statement .res_1_H := fun _ => rfl
theorem FormatLength.res_1_L : FormatLength.Statement .res_1_L := fun _ => rfl
theorem FormatLength.res_1_mHL : FormatLength.Statement .res_1_mHL := fun _ => rfl
theorem FormatLength.res_1_A : FormatLength.Statement .res_1_A := fun _ => rfl
theorem FormatLength.res_2_B : FormatLength.Statement .res_2_B := fun _ => rfl
theorem FormatLength.res_2_C : FormatLength.Statement .res_2_C := fun _ => rfl
theorem FormatLength.res_2_D : FormatLength.Statement .res_2_D := fun _ => rfl
theorem FormatLength.res_2_E : FormatLength.Statement .res_2_E := fun _ => rfl
theorem FormatLength.res_2_H : FormatLength.Statement .res_2_H := fun _ => rfl
theorem FormatLength.res_2_L : FormatLength.Statement .res_2_L := fun _ => rfl
theorem FormatLength.res_2_mHL : FormatLength.Statement .res_2_mHL := fun _ => rfl
theorem FormatLength.res_2_A : FormatLength.Statement .res_2_A := fun _ => rfl
theorem FormatLength.res_3_B : FormatLength.Statement .res_3_B := fun _ => rfl
theorem FormatLength.res_3_C : FormatLength.Statement .res_3_C := fun _ => rfl
theorem FormatLength.res_3_D : FormatLength.Statement .res_3_D := fun _ => rfl
theorem FormatLength.res_3_E : FormatLength.Statement .res_3_E := fun _ => rfl
theorem FormatLength.res_3_H : FormatLength.Statement .res_3_H := fun _ => rfl
theorem FormatLength.res_3_L : FormatLength.Statement .res_3_L := fun _ => rfl
theorem FormatLength.res_3_mHL : FormatLength.Statement .res_3_mHL := fun _ => rfl
theorem FormatLength.res_3_A : FormatLength.Statement .res_3_A := fun _ => rfl
theorem FormatLength.res_4_B : FormatLength.Statement .res_4_B := fun _ => rfl
theorem FormatLength.res_4_C : FormatLength.Statement .res_4_C := fun _ => rfl
theorem FormatLength.res_4_D : FormatLength.Statement .res_4_D := fun _ => rfl
theorem FormatLength.res_4_E : FormatLength.Statement .res_4_E := fun _ => rfl
theorem FormatLength.res_4_H : FormatLength.Statement .res_4_H := fun _ => rfl
theorem FormatLength.res_4_L : FormatLength.Statement .res_4_L := fun _ => rfl
theorem FormatLength.res_4_mHL : FormatLength.Statement .res_4_mHL := fun _ => rfl
theorem FormatLength.res_4_A : FormatLength.Statement .res_4_A := fun _ => rfl
theorem FormatLength.res_5_B : FormatLength.Statement .res_5_B := fun _ => rfl
theorem FormatLength.res_5_C : FormatLength.Statement .res_5_C := fun _ => rfl
theorem FormatLength.res_5_D : FormatLength.Statement .res_5_D := fun _ => rfl
theorem FormatLength.res_5_E : FormatLength.Statement .res_5_E := fun _ => rfl
theorem FormatLength.res_5_H : FormatLength.Statement .res_5_H := fun _ => rfl
theorem FormatLength.res_5_L : FormatLength.Statement .res_5_L := fun _ => rfl
theorem FormatLength.res_5_mHL : FormatLength.Statement .res_5_mHL := fun _ => rfl
theorem FormatLength.res_5_A : FormatLength.Statement .res_5_A := fun _ => rfl
theorem FormatLength.res_6_B : FormatLength.Statement .res_6_B := fun _ => rfl
theorem FormatLength.res_6_C : FormatLength.Statement .res_6_C := fun _ => rfl
theorem FormatLength.res_6_D : FormatLength.Statement .res_6_D := fun _ => rfl
theorem FormatLength.res_6_E : FormatLength.Statement .res_6_E := fun _ => rfl
theorem FormatLength.res_6_H : FormatLength.Statement .res_6_H := fun _ => rfl
theorem FormatLength.res_6_L : FormatLength.Statement .res_6_L := fun _ => rfl
theorem FormatLength.res_6_mHL : FormatLength.Statement .res_6_mHL := fun _ => rfl
theorem FormatLength.res_6_A : FormatLength.Statement .res_6_A := fun _ => rfl
theorem FormatLength.res_7_B : FormatLength.Statement .res_7_B := fun _ => rfl
theorem FormatLength.res_7_C : FormatLength.Statement .res_7_C := fun _ => rfl
theorem FormatLength.res_7_D : FormatLength.Statement .res_7_D := fun _ => rfl
theorem FormatLength.res_7_E : FormatLength.Statement .res_7_E := fun _ => rfl
theorem FormatLength.res_7_H : FormatLength.Statement .res_7_H := fun _ => rfl
theorem FormatLength.res_7_L : FormatLength.Statement .res_7_L := fun _ => rfl
theorem FormatLength.res_7_mHL : FormatLength.Statement .res_7_mHL := fun _ => rfl
theorem FormatLength.res_7_A : FormatLength.Statement .res_7_A := fun _ => rfl
theorem FormatLength.set_0_B : FormatLength.Statement .set_0_B := fun _ => rfl
theorem FormatLength.set_0_C : FormatLength.Statement .set_0_C := fun _ => rfl
theorem FormatLength.set_0_D : FormatLength.Statement .set_0_D := fun _ => rfl
theorem FormatLength.set_0_E : FormatLength.Statement .set_0_E := fun _ => rfl
theorem FormatLength.set_0_H : FormatLength.Statement .set_0_H := fun _ => rfl
theorem FormatLength.set_0_L : FormatLength.Statement .set_0_L := fun _ => rfl
theorem FormatLength.set_0_mHL : FormatLength.Statement .set_0_mHL := fun _ => rfl
theorem FormatLength.set_0_A : FormatLength.Statement .set_0_A := fun _ => rfl
theorem FormatLength.set_1_B : FormatLength.Statement .set_1_B := fun _ => rfl
theorem FormatLength.set_1_C : FormatLength.Statement .set_1_C := fun _ => rfl
theorem FormatLength.set_1_D : FormatLength.Statement .set_1_D := fun _ => rfl
theorem FormatLength.set_1_E : FormatLength.Statement .set_1_E := fun _ => rfl
theorem FormatLength.set_1_H : FormatLength.Statement .set_1_H := fun _ => rfl
theorem FormatLength.set_1_L : FormatLength.Statement .set_1_L := fun _ => rfl
theorem FormatLength.set_1_mHL : FormatLength.Statement .set_1_mHL := fun _ => rfl
theorem FormatLength.set_1_A : FormatLength.Statement .set_1_A := fun _ => rfl
theorem FormatLength.set_2_B : FormatLength.Statement .set_2_B := fun _ => rfl
theorem FormatLength.set_2_C : FormatLength.Statement .set_2_C := fun _ => rfl
theorem FormatLength.set_2_D : FormatLength.Statement .set_2_D := fun _ => rfl
theorem FormatLength.set_2_E : FormatLength.Statement .set_2_E := fun _ => rfl
theorem FormatLength.set_2_H : FormatLength.Statement .set_2_H := fun _ => rfl
theorem FormatLength.set_2_L : FormatLength.Statement .set_2_L := fun _ => rfl
theorem FormatLength.set_2_mHL : FormatLength.Statement .set_2_mHL := fun _ => rfl
theorem FormatLength.set_2_A : FormatLength.Statement .set_2_A := fun _ => rfl
theorem FormatLength.set_3_B : FormatLength.Statement .set_3_B := fun _ => rfl
theorem FormatLength.set_3_C : FormatLength.Statement .set_3_C := fun _ => rfl
theorem FormatLength.set_3_D : FormatLength.Statement .set_3_D := fun _ => rfl
theorem FormatLength.set_3_E : FormatLength.Statement .set_3_E := fun _ => rfl
theorem FormatLength.set_3_H : FormatLength.Statement .set_3_H := fun _ => rfl
theorem FormatLength.set_3_L : FormatLength.Statement .set_3_L := fun _ => rfl
theorem FormatLength.set_3_mHL : FormatLength.Statement .set_3_mHL := fun _ => rfl
theorem FormatLength.set_3_A : FormatLength.Statement .set_3_A := fun _ => rfl
theorem FormatLength.set_4_B : FormatLength.Statement .set_4_B := fun _ => rfl
theorem FormatLength.set_4_C : FormatLength.Statement .set_4_C := fun _ => rfl
theorem FormatLength.set_4_D : FormatLength.Statement .set_4_D := fun _ => rfl
theorem FormatLength.set_4_E : FormatLength.Statement .set_4_E := fun _ => rfl
theorem FormatLength.set_4_H : FormatLength.Statement .set_4_H := fun _ => rfl
theorem FormatLength.set_4_L : FormatLength.Statement .set_4_L := fun _ => rfl
theorem FormatLength.set_4_mHL : FormatLength.Statement .set_4_mHL := fun _ => rfl
theorem FormatLength.set_4_A : FormatLength.Statement .set_4_A := fun _ => rfl
theorem FormatLength.set_5_B : FormatLength.Statement .set_5_B := fun _ => rfl
theorem FormatLength.set_5_C : FormatLength.Statement .set_5_C := fun _ => rfl
theorem FormatLength.set_5_D : FormatLength.Statement .set_5_D := fun _ => rfl
theorem FormatLength.set_5_E : FormatLength.Statement .set_5_E := fun _ => rfl
theorem FormatLength.set_5_H : FormatLength.Statement .set_5_H := fun _ => rfl
theorem FormatLength.set_5_L : FormatLength.Statement .set_5_L := fun _ => rfl
theorem FormatLength.set_5_mHL : FormatLength.Statement .set_5_mHL := fun _ => rfl
theorem FormatLength.set_5_A : FormatLength.Statement .set_5_A := fun _ => rfl
theorem FormatLength.set_6_B : FormatLength.Statement .set_6_B := fun _ => rfl
theorem FormatLength.set_6_C : FormatLength.Statement .set_6_C := fun _ => rfl
theorem FormatLength.set_6_D : FormatLength.Statement .set_6_D := fun _ => rfl
theorem FormatLength.set_6_E : FormatLength.Statement .set_6_E := fun _ => rfl
theorem FormatLength.set_6_H : FormatLength.Statement .set_6_H := fun _ => rfl
theorem FormatLength.set_6_L : FormatLength.Statement .set_6_L := fun _ => rfl
theorem FormatLength.set_6_mHL : FormatLength.Statement .set_6_mHL := fun _ => rfl
theorem FormatLength.set_6_A : FormatLength.Statement .set_6_A := fun _ => rfl
theorem FormatLength.set_7_B : FormatLength.Statement .set_7_B := fun _ => rfl
theorem FormatLength.set_7_C : FormatLength.Statement .set_7_C := fun _ => rfl
theorem FormatLength.set_7_D : FormatLength.Statement .set_7_D := fun _ => rfl
theorem FormatLength.set_7_E : FormatLength.Statement .set_7_E := fun _ => rfl
theorem FormatLength.set_7_H : FormatLength.Statement .set_7_H := fun _ => rfl
theorem FormatLength.set_7_L : FormatLength.Statement .set_7_L := fun _ => rfl
theorem FormatLength.set_7_mHL : FormatLength.Statement .set_7_mHL := fun _ => rfl
theorem FormatLength.set_7_A : FormatLength.Statement .set_7_A := fun _ => rfl

end Sys2Proof.Laws
end

