-- ==== Sys2Proof/Laws/Step.lean ====
section
/-! SUPPORT. What the scheduler and the step can do, and that every memory operation keeps the canonical form of
memory. -/

namespace Sys2Proof.Machine

variable {s t : State} {cfg : Config}

/-! ## The scheduler -/

theorem account_of_lt {n : Nat} (h : s.cyc + n < cfg.cyclesPerScanline) : account cfg n s = s.setCyc (s.cyc + n) :=
  if_neg (by omega)

theorem account_of_ge {n : Nat} (h : cfg.cyclesPerScanline ≤ s.cyc + n) :
    account cfg n s = advanceScanline cfg (s.setCyc 0) := if_pos h

@[simp] theorem sp_account (cfg : Config) (n : Nat) (s : State) : (account cfg n s).sp = s.sp := by
  unfold account; split <;> rfl
@[simp] theorem pc_account (cfg : Config) (n : Nat) (s : State) : (account cfg n s).pc = s.pc := by
  unfold account; split <;> rfl
@[simp] theorem flags_account (cfg : Config) (n : Nat) (s : State) : (account cfg n s).flags = s.flags := by
  unfold account; split <;> rfl
@[simp] theorem cell_account (cfg : Config) (n : Nat) (s : State) (x : Cell) : (account cfg n s).cell x = s.cell x := by
  unfold account; split <;> cases x <;> rfl

theorem byteAt_account (cfg : Config) (n : Nat) (s : State) {a : Word} (h : a ≠ cfg.scanlineAddr) :
    (account cfg n s).byteAt a = s.byteAt a := by
  unfold account
  split
  · simp [advanceScanline, h]
  · simp

/-! ## The step -/

/-- A step that succeeds: the execution succeeds, and the scheduler runs after it (40_step.md R90). -/
theorem stepWith_eq_next (h : stepWith cfg s = .next t) :
    ∃ u, exec (decodePrimary (s.byteAt s.pc)) (s.advance 1) = .next u ∧
      t = account cfg (costOf (cfg.cost (s.byteAt s.pc)) (takenBy (decodePrimary (s.byteAt s.pc)) (s.advance 1))) u := by
  obtain ⟨u, hu, ht⟩ := andThen_eq_next.mp h
  injection ht with ht
  exact ⟨u, hu, ht.symm⟩

/-- A step that fails: the execution fails (60_exceptions.md R275). -/
theorem stepWith_eq_fault {r : Fault} :
    stepWith cfg s = .fault r ↔ exec (decodePrimary (s.byteAt s.pc)) (s.advance 1) = .fault r := by
  unfold stepWith
  rw [andThen_eq_fault]
  simp [fetch8]

/-! ## The canonical form of memory -/

/-- A byte store keeps the canonical form. -/
theorem wf_setByte (a : Word) (v : Byte) (h : s.mem.wf = true) : (s.setByte a v).mem.wf = true := wf_memWrite v h a.isLt

/-- A store to an 8-bit operand keeps the canonical form. -/
theorem wf_writeR8 (z : R8) (v : Byte) (h : s.mem.wf = true) : (writeR8 z v s).mem.wf = true := by
  cases z <;> first | exact wf_setByte _ _ h | simpa [writeR8] using h

/-- A 16-bit store keeps the canonical form. -/
theorem wf_setWord {a v : Word} (h : s.setWord a v = .next t) (hw : s.mem.wf = true) : t.mem.wf = true := by
  by_cases h' : a = 0xFFFF#16
  · subst h'; simp [setWord_top] at h
  · rw [setWord_of_ne v h'] at h
    injection h with h
    rw [← h]
    exact wf_setByte _ _ (wf_setByte _ _ hw)

/-- A push keeps the canonical form. -/
theorem wf_push16 {v : Word} (h : push16 v s = .next t) (hw : s.mem.wf = true) : t.mem.wf = true :=
  wf_setWord h (by rw [mem_setSP]; exact hw)

/-- The scheduler keeps the canonical form. -/
theorem wf_account (n : Nat) (h : s.mem.wf = true) : (account cfg n s).mem.wf = true := by
  unfold account
  split
  · exact wf_setByte _ _ (by rw [mem_setCyc]; exact h)
  · rw [mem_setCyc]; exact h

/-- A byte placed by an external agent keeps the canonical form. -/
theorem wf_surfaceWrite8 (a : Word) (v : Byte) (h : s.mem.wf = true) : (surfaceWrite8 a v s).mem.wf = true :=
  wf_setByte a v h

/-- Placing bytes keeps the canonical form. -/
theorem wf_placeBytes (a : Word) (bs : List Byte) (h : s.mem.wf = true) : (s.placeBytes a bs).mem.wf = true := by
  induction bs generalizing s a with
  | nil => exact h
  | cons b bs ih => exact ih (a + 1#16) (wf_setByte a b h)

end Sys2Proof.Machine
end

