-- ==== Sys2Proof/Tests/Slice0.lean ====
section
/-! SUPPORT. The model's own tests: one-step tests whose expected results are the vectors of 95_test_vectors.md, smoke
tests of WellFormed and of the decoder, and for each obligation with hypotheses a state and operands that meet them. -/

namespace Sys2Proof.Tests

open Sys2Proof Sys2Proof.Machine

/-- The reset state with bytes at `pc` (95_test_vectors.md, the start state of every vector). -/
def startAt (pc : Word) (bytes : List Byte) : State := (State.reset.setPC pc).placeBytes pc bytes

/-- What one step leaves, seen through `f`. -/
def after {α : Type} (f : State → α) (s : State) : Option α :=
  match step s with
  | .next t => some (f t)
  | .fault _ | .refused _ => none

/-- How one step fails. -/
def failureOf (s : State) : Option Fault :=
  match step s with
  | .fault r => some r
  | .next _ | .refused _ => none

/-! ## Decoding: every row of opcode_table.json, its word written out bit by bit (30_encoding.md R70, R73) -/

/-- Each primary byte decodes to the instruction beside it. -/
def primaryRows (rows : List (Byte × Instr)) : Bool := rows.all fun p => decodePrimary p.1 == p.2

/-- Each extended byte, after the escape, decodes to the instruction beside it. -/
def extendedRows (rows : List (Byte × Instr)) : Bool :=
  rows.all fun p => decode [0b11001011#8, p.1] == some (p.2, [])

theorem test_decode_primary_0x :
  primaryRows [
    (0b00000000#8, .nop), (0b00000001#8, .ld_BC_d16), (0b00000010#8, .ld_mBC_A), (0b00000011#8, .inc_BC),
    (0b00000100#8, .inc_B), (0b00000101#8, .dec_B), (0b00000110#8, .ld_B_d8), (0b00000111#8, .rlca),
    (0b00001000#8, .ld_ma16_SP), (0b00001001#8, .add_HL_BC), (0b00001010#8, .ld_A_mBC), (0b00001011#8, .dec_BC),
    (0b00001100#8, .inc_C), (0b00001101#8, .dec_C), (0b00001110#8, .ld_C_d8), (0b00001111#8, .rrca)] = true := by decide

theorem test_decode_primary_1x :
  primaryRows [
    (0b00010000#8, .stop), (0b00010001#8, .ld_DE_d16), (0b00010010#8, .ld_mDE_A), (0b00010011#8, .inc_DE),
    (0b00010100#8, .inc_D), (0b00010101#8, .dec_D), (0b00010110#8, .ld_D_d8), (0b00010111#8, .rla),
    (0b00011000#8, .jr_r8), (0b00011001#8, .add_HL_DE), (0b00011010#8, .ld_A_mDE), (0b00011011#8, .dec_DE),
    (0b00011100#8, .inc_E), (0b00011101#8, .dec_E), (0b00011110#8, .ld_E_d8), (0b00011111#8, .rra)] = true := by decide

theorem test_decode_primary_2x :
  primaryRows [
    (0b00100000#8, .jr_NZ_r8), (0b00100001#8, .ld_HL_d16), (0b00100010#8, .ld_mHLI_A), (0b00100011#8, .inc_HL),
    (0b00100100#8, .inc_H), (0b00100101#8, .dec_H), (0b00100110#8, .ld_H_d8), (0b00100111#8, .daa),
    (0b00101000#8, .jr_Z_r8), (0b00101001#8, .add_HL_HL), (0b00101010#8, .ld_A_mHLI), (0b00101011#8, .dec_HL),
    (0b00101100#8, .inc_L), (0b00101101#8, .dec_L), (0b00101110#8, .ld_L_d8), (0b00101111#8, .cpl)] = true := by decide

theorem test_decode_primary_3x :
  primaryRows [
    (0b00110000#8, .jr_NC_r8), (0b00110001#8, .ld_SP_d16), (0b00110010#8, .ld_mHLD_A), (0b00110011#8, .inc_SP),
    (0b00110100#8, .inc_mHL), (0b00110101#8, .dec_mHL), (0b00110110#8, .ld_mHL_d8), (0b00110111#8, .scf),
    (0b00111000#8, .jr_C_r8), (0b00111001#8, .add_HL_SP), (0b00111010#8, .ld_A_mHLD), (0b00111011#8, .dec_SP),
    (0b00111100#8, .inc_A), (0b00111101#8, .dec_A), (0b00111110#8, .ld_A_d8), (0b00111111#8, .ccf)] = true := by decide

theorem test_decode_primary_4x :
  primaryRows [
    (0b01000000#8, .ld_B_B), (0b01000001#8, .ld_B_C), (0b01000010#8, .ld_B_D), (0b01000011#8, .ld_B_E),
    (0b01000100#8, .ld_B_H), (0b01000101#8, .ld_B_L), (0b01000110#8, .ld_B_mHL), (0b01000111#8, .ld_B_A),
    (0b01001000#8, .ld_C_B), (0b01001001#8, .ld_C_C), (0b01001010#8, .ld_C_D), (0b01001011#8, .ld_C_E),
    (0b01001100#8, .ld_C_H), (0b01001101#8, .ld_C_L), (0b01001110#8, .ld_C_mHL), (0b01001111#8, .ld_C_A)] = true := by decide

theorem test_decode_primary_5x :
  primaryRows [
    (0b01010000#8, .ld_D_B), (0b01010001#8, .ld_D_C), (0b01010010#8, .ld_D_D), (0b01010011#8, .ld_D_E),
    (0b01010100#8, .ld_D_H), (0b01010101#8, .ld_D_L), (0b01010110#8, .ld_D_mHL), (0b01010111#8, .ld_D_A),
    (0b01011000#8, .ld_E_B), (0b01011001#8, .ld_E_C), (0b01011010#8, .ld_E_D), (0b01011011#8, .ld_E_E),
    (0b01011100#8, .ld_E_H), (0b01011101#8, .ld_E_L), (0b01011110#8, .ld_E_mHL), (0b01011111#8, .ld_E_A)] = true := by decide

theorem test_decode_primary_6x :
  primaryRows [
    (0b01100000#8, .ld_H_B), (0b01100001#8, .ld_H_C), (0b01100010#8, .ld_H_D), (0b01100011#8, .ld_H_E),
    (0b01100100#8, .ld_H_H), (0b01100101#8, .ld_H_L), (0b01100110#8, .ld_H_mHL), (0b01100111#8, .ld_H_A),
    (0b01101000#8, .ld_L_B), (0b01101001#8, .ld_L_C), (0b01101010#8, .ld_L_D), (0b01101011#8, .ld_L_E),
    (0b01101100#8, .ld_L_H), (0b01101101#8, .ld_L_L), (0b01101110#8, .ld_L_mHL), (0b01101111#8, .ld_L_A)] = true := by decide

theorem test_decode_primary_7x :
  primaryRows [
    (0b01110000#8, .ld_mHL_B), (0b01110001#8, .ld_mHL_C), (0b01110010#8, .ld_mHL_D), (0b01110011#8, .ld_mHL_E),
    (0b01110100#8, .ld_mHL_H), (0b01110101#8, .ld_mHL_L), (0b01110110#8, .halt), (0b01110111#8, .ld_mHL_A),
    (0b01111000#8, .ld_A_B), (0b01111001#8, .ld_A_C), (0b01111010#8, .ld_A_D), (0b01111011#8, .ld_A_E),
    (0b01111100#8, .ld_A_H), (0b01111101#8, .ld_A_L), (0b01111110#8, .ld_A_mHL), (0b01111111#8, .ld_A_A)] = true := by decide

theorem test_decode_primary_8x :
  primaryRows [
    (0b10000000#8, .add_A_B), (0b10000001#8, .add_A_C), (0b10000010#8, .add_A_D), (0b10000011#8, .add_A_E),
    (0b10000100#8, .add_A_H), (0b10000101#8, .add_A_L), (0b10000110#8, .add_A_mHL), (0b10000111#8, .add_A_A),
    (0b10001000#8, .adc_A_B), (0b10001001#8, .adc_A_C), (0b10001010#8, .adc_A_D), (0b10001011#8, .adc_A_E),
    (0b10001100#8, .adc_A_H), (0b10001101#8, .adc_A_L), (0b10001110#8, .adc_A_mHL), (0b10001111#8, .adc_A_A)] = true := by decide

theorem test_decode_primary_9x :
  primaryRows [
    (0b10010000#8, .sub_B), (0b10010001#8, .sub_C), (0b10010010#8, .sub_D), (0b10010011#8, .sub_E),
    (0b10010100#8, .sub_H), (0b10010101#8, .sub_L), (0b10010110#8, .sub_mHL), (0b10010111#8, .sub_A),
    (0b10011000#8, .sbc_A_B), (0b10011001#8, .sbc_A_C), (0b10011010#8, .sbc_A_D), (0b10011011#8, .sbc_A_E),
    (0b10011100#8, .sbc_A_H), (0b10011101#8, .sbc_A_L), (0b10011110#8, .sbc_A_mHL), (0b10011111#8, .sbc_A_A)] = true := by decide

theorem test_decode_primary_Ax :
  primaryRows [
    (0b10100000#8, .and_B), (0b10100001#8, .and_C), (0b10100010#8, .and_D), (0b10100011#8, .and_E),
    (0b10100100#8, .and_H), (0b10100101#8, .and_L), (0b10100110#8, .and_mHL), (0b10100111#8, .and_A),
    (0b10101000#8, .xor_B), (0b10101001#8, .xor_C), (0b10101010#8, .xor_D), (0b10101011#8, .xor_E),
    (0b10101100#8, .xor_H), (0b10101101#8, .xor_L), (0b10101110#8, .xor_mHL), (0b10101111#8, .xor_A)] = true := by decide

theorem test_decode_primary_Bx :
  primaryRows [
    (0b10110000#8, .or_B), (0b10110001#8, .or_C), (0b10110010#8, .or_D), (0b10110011#8, .or_E),
    (0b10110100#8, .or_H), (0b10110101#8, .or_L), (0b10110110#8, .or_mHL), (0b10110111#8, .or_A),
    (0b10111000#8, .cp_B), (0b10111001#8, .cp_C), (0b10111010#8, .cp_D), (0b10111011#8, .cp_E),
    (0b10111100#8, .cp_H), (0b10111101#8, .cp_L), (0b10111110#8, .cp_mHL), (0b10111111#8, .cp_A)] = true := by decide

theorem test_decode_primary_Cx :
  primaryRows [
    (0b11000000#8, .ret_NZ), (0b11000001#8, .pop_BC), (0b11000010#8, .jp_NZ_a16), (0b11000011#8, .jp_a16),
    (0b11000100#8, .call_NZ_a16), (0b11000101#8, .push_BC), (0b11000110#8, .add_A_d8), (0b11000111#8, .rst_00H),
    (0b11001000#8, .ret_Z), (0b11001001#8, .ret), (0b11001010#8, .jp_Z_a16), (0b11001011#8, .prefix_CB),
    (0b11001100#8, .call_Z_a16), (0b11001101#8, .call_a16), (0b11001110#8, .adc_A_d8), (0b11001111#8, .rst_08H)] = true := by decide

theorem test_decode_primary_Dx :
  primaryRows [
    (0b11010000#8, .ret_NC), (0b11010001#8, .pop_DE), (0b11010010#8, .jp_NC_a16), (0b11010011#8, .unsupported_D3),
    (0b11010100#8, .call_NC_a16), (0b11010101#8, .push_DE), (0b11010110#8, .sub_d8), (0b11010111#8, .rst_10H),
    (0b11011000#8, .ret_C), (0b11011001#8, .reti), (0b11011010#8, .jp_C_a16), (0b11011011#8, .unsupported_DB),
    (0b11011100#8, .call_C_a16), (0b11011101#8, .unsupported_DD), (0b11011110#8, .sbc_A_d8), (0b11011111#8, .rst_18H)] = true := by decide

theorem test_decode_primary_Ex :
  primaryRows [
    (0b11100000#8, .ldh_ma8_A), (0b11100001#8, .pop_HL), (0b11100010#8, .ld_mC_A), (0b11100011#8, .unsupported_E3),
    (0b11100100#8, .unsupported_E4), (0b11100101#8, .push_HL), (0b11100110#8, .and_d8), (0b11100111#8, .rst_20H),
    (0b11101000#8, .add_SP_r8), (0b11101001#8, .jp_mHL), (0b11101010#8, .ld_ma16_A), (0b11101011#8, .unsupported_EB),
    (0b11101100#8, .unsupported_EC), (0b11101101#8, .unsupported_ED), (0b11101110#8, .xor_d8), (0b11101111#8, .rst_28H)] = true := by decide

theorem test_decode_primary_Fx :
  primaryRows [
    (0b11110000#8, .ldh_A_ma8), (0b11110001#8, .pop_AF), (0b11110010#8, .ld_A_mC), (0b11110011#8, .di),
    (0b11110100#8, .unsupported_F4), (0b11110101#8, .push_AF), (0b11110110#8, .or_d8), (0b11110111#8, .rst_30H),
    (0b11111000#8, .ld_HL_SPr8), (0b11111001#8, .ld_SP_HL), (0b11111010#8, .ld_A_ma16), (0b11111011#8, .ei),
    (0b11111100#8, .unsupported_FC), (0b11111101#8, .unsupported_FD), (0b11111110#8, .cp_d8), (0b11111111#8, .rst_38H)] = true := by decide

theorem test_decode_extended_0x :
  extendedRows [
    (0b00000000#8, .rlc_B), (0b00000001#8, .rlc_C), (0b00000010#8, .rlc_D), (0b00000011#8, .rlc_E),
    (0b00000100#8, .rlc_H), (0b00000101#8, .rlc_L), (0b00000110#8, .rlc_mHL), (0b00000111#8, .rlc_A),
    (0b00001000#8, .rrc_B), (0b00001001#8, .rrc_C), (0b00001010#8, .rrc_D), (0b00001011#8, .rrc_E),
    (0b00001100#8, .rrc_H), (0b00001101#8, .rrc_L), (0b00001110#8, .rrc_mHL), (0b00001111#8, .rrc_A)] = true := by decide

theorem test_decode_extended_1x :
  extendedRows [
    (0b00010000#8, .rl_B), (0b00010001#8, .rl_C), (0b00010010#8, .rl_D), (0b00010011#8, .rl_E),
    (0b00010100#8, .rl_H), (0b00010101#8, .rl_L), (0b00010110#8, .rl_mHL), (0b00010111#8, .rl_A),
    (0b00011000#8, .rr_B), (0b00011001#8, .rr_C), (0b00011010#8, .rr_D), (0b00011011#8, .rr_E),
    (0b00011100#8, .rr_H), (0b00011101#8, .rr_L), (0b00011110#8, .rr_mHL), (0b00011111#8, .rr_A)] = true := by decide

theorem test_decode_extended_2x :
  extendedRows [
    (0b00100000#8, .sla_B), (0b00100001#8, .sla_C), (0b00100010#8, .sla_D), (0b00100011#8, .sla_E),
    (0b00100100#8, .sla_H), (0b00100101#8, .sla_L), (0b00100110#8, .sla_mHL), (0b00100111#8, .sla_A),
    (0b00101000#8, .sra_B), (0b00101001#8, .sra_C), (0b00101010#8, .sra_D), (0b00101011#8, .sra_E),
    (0b00101100#8, .sra_H), (0b00101101#8, .sra_L), (0b00101110#8, .sra_mHL), (0b00101111#8, .sra_A)] = true := by decide

theorem test_decode_extended_3x :
  extendedRows [
    (0b00110000#8, .swap_B), (0b00110001#8, .swap_C), (0b00110010#8, .swap_D), (0b00110011#8, .swap_E),
    (0b00110100#8, .swap_H), (0b00110101#8, .swap_L), (0b00110110#8, .swap_mHL), (0b00110111#8, .swap_A),
    (0b00111000#8, .srl_B), (0b00111001#8, .srl_C), (0b00111010#8, .srl_D), (0b00111011#8, .srl_E),
    (0b00111100#8, .srl_H), (0b00111101#8, .srl_L), (0b00111110#8, .srl_mHL), (0b00111111#8, .srl_A)] = true := by decide

theorem test_decode_extended_4x :
  extendedRows [
    (0b01000000#8, .bit_0_B), (0b01000001#8, .bit_0_C), (0b01000010#8, .bit_0_D), (0b01000011#8, .bit_0_E),
    (0b01000100#8, .bit_0_H), (0b01000101#8, .bit_0_L), (0b01000110#8, .bit_0_mHL), (0b01000111#8, .bit_0_A),
    (0b01001000#8, .bit_1_B), (0b01001001#8, .bit_1_C), (0b01001010#8, .bit_1_D), (0b01001011#8, .bit_1_E),
    (0b01001100#8, .bit_1_H), (0b01001101#8, .bit_1_L), (0b01001110#8, .bit_1_mHL), (0b01001111#8, .bit_1_A)] = true := by decide

theorem test_decode_extended_5x :
  extendedRows [
    (0b01010000#8, .bit_2_B), (0b01010001#8, .bit_2_C), (0b01010010#8, .bit_2_D), (0b01010011#8, .bit_2_E),
    (0b01010100#8, .bit_2_H), (0b01010101#8, .bit_2_L), (0b01010110#8, .bit_2_mHL), (0b01010111#8, .bit_2_A),
    (0b01011000#8, .bit_3_B), (0b01011001#8, .bit_3_C), (0b01011010#8, .bit_3_D), (0b01011011#8, .bit_3_E),
    (0b01011100#8, .bit_3_H), (0b01011101#8, .bit_3_L), (0b01011110#8, .bit_3_mHL), (0b01011111#8, .bit_3_A)] = true := by decide

theorem test_decode_extended_6x :
  extendedRows [
    (0b01100000#8, .bit_4_B), (0b01100001#8, .bit_4_C), (0b01100010#8, .bit_4_D), (0b01100011#8, .bit_4_E),
    (0b01100100#8, .bit_4_H), (0b01100101#8, .bit_4_L), (0b01100110#8, .bit_4_mHL), (0b01100111#8, .bit_4_A),
    (0b01101000#8, .bit_5_B), (0b01101001#8, .bit_5_C), (0b01101010#8, .bit_5_D), (0b01101011#8, .bit_5_E),
    (0b01101100#8, .bit_5_H), (0b01101101#8, .bit_5_L), (0b01101110#8, .bit_5_mHL), (0b01101111#8, .bit_5_A)] = true := by decide

theorem test_decode_extended_7x :
  extendedRows [
    (0b01110000#8, .bit_6_B), (0b01110001#8, .bit_6_C), (0b01110010#8, .bit_6_D), (0b01110011#8, .bit_6_E),
    (0b01110100#8, .bit_6_H), (0b01110101#8, .bit_6_L), (0b01110110#8, .bit_6_mHL), (0b01110111#8, .bit_6_A),
    (0b01111000#8, .bit_7_B), (0b01111001#8, .bit_7_C), (0b01111010#8, .bit_7_D), (0b01111011#8, .bit_7_E),
    (0b01111100#8, .bit_7_H), (0b01111101#8, .bit_7_L), (0b01111110#8, .bit_7_mHL), (0b01111111#8, .bit_7_A)] = true := by decide

theorem test_decode_extended_8x :
  extendedRows [
    (0b10000000#8, .res_0_B), (0b10000001#8, .res_0_C), (0b10000010#8, .res_0_D), (0b10000011#8, .res_0_E),
    (0b10000100#8, .res_0_H), (0b10000101#8, .res_0_L), (0b10000110#8, .res_0_mHL), (0b10000111#8, .res_0_A),
    (0b10001000#8, .res_1_B), (0b10001001#8, .res_1_C), (0b10001010#8, .res_1_D), (0b10001011#8, .res_1_E),
    (0b10001100#8, .res_1_H), (0b10001101#8, .res_1_L), (0b10001110#8, .res_1_mHL), (0b10001111#8, .res_1_A)] = true := by decide

theorem test_decode_extended_9x :
  extendedRows [
    (0b10010000#8, .res_2_B), (0b10010001#8, .res_2_C), (0b10010010#8, .res_2_D), (0b10010011#8, .res_2_E),
    (0b10010100#8, .res_2_H), (0b10010101#8, .res_2_L), (0b10010110#8, .res_2_mHL), (0b10010111#8, .res_2_A),
    (0b10011000#8, .res_3_B), (0b10011001#8, .res_3_C), (0b10011010#8, .res_3_D), (0b10011011#8, .res_3_E),
    (0b10011100#8, .res_3_H), (0b10011101#8, .res_3_L), (0b10011110#8, .res_3_mHL), (0b10011111#8, .res_3_A)] = true := by decide

theorem test_decode_extended_Ax :
  extendedRows [
    (0b10100000#8, .res_4_B), (0b10100001#8, .res_4_C), (0b10100010#8, .res_4_D), (0b10100011#8, .res_4_E),
    (0b10100100#8, .res_4_H), (0b10100101#8, .res_4_L), (0b10100110#8, .res_4_mHL), (0b10100111#8, .res_4_A),
    (0b10101000#8, .res_5_B), (0b10101001#8, .res_5_C), (0b10101010#8, .res_5_D), (0b10101011#8, .res_5_E),
    (0b10101100#8, .res_5_H), (0b10101101#8, .res_5_L), (0b10101110#8, .res_5_mHL), (0b10101111#8, .res_5_A)] = true := by decide

theorem test_decode_extended_Bx :
  extendedRows [
    (0b10110000#8, .res_6_B), (0b10110001#8, .res_6_C), (0b10110010#8, .res_6_D), (0b10110011#8, .res_6_E),
    (0b10110100#8, .res_6_H), (0b10110101#8, .res_6_L), (0b10110110#8, .res_6_mHL), (0b10110111#8, .res_6_A),
    (0b10111000#8, .res_7_B), (0b10111001#8, .res_7_C), (0b10111010#8, .res_7_D), (0b10111011#8, .res_7_E),
    (0b10111100#8, .res_7_H), (0b10111101#8, .res_7_L), (0b10111110#8, .res_7_mHL), (0b10111111#8, .res_7_A)] = true := by decide

theorem test_decode_extended_Cx :
  extendedRows [
    (0b11000000#8, .set_0_B), (0b11000001#8, .set_0_C), (0b11000010#8, .set_0_D), (0b11000011#8, .set_0_E),
    (0b11000100#8, .set_0_H), (0b11000101#8, .set_0_L), (0b11000110#8, .set_0_mHL), (0b11000111#8, .set_0_A),
    (0b11001000#8, .set_1_B), (0b11001001#8, .set_1_C), (0b11001010#8, .set_1_D), (0b11001011#8, .set_1_E),
    (0b11001100#8, .set_1_H), (0b11001101#8, .set_1_L), (0b11001110#8, .set_1_mHL), (0b11001111#8, .set_1_A)] = true := by decide

theorem test_decode_extended_Dx :
  extendedRows [
    (0b11010000#8, .set_2_B), (0b11010001#8, .set_2_C), (0b11010010#8, .set_2_D), (0b11010011#8, .set_2_E),
    (0b11010100#8, .set_2_H), (0b11010101#8, .set_2_L), (0b11010110#8, .set_2_mHL), (0b11010111#8, .set_2_A),
    (0b11011000#8, .set_3_B), (0b11011001#8, .set_3_C), (0b11011010#8, .set_3_D), (0b11011011#8, .set_3_E),
    (0b11011100#8, .set_3_H), (0b11011101#8, .set_3_L), (0b11011110#8, .set_3_mHL), (0b11011111#8, .set_3_A)] = true := by decide

theorem test_decode_extended_Ex :
  extendedRows [
    (0b11100000#8, .set_4_B), (0b11100001#8, .set_4_C), (0b11100010#8, .set_4_D), (0b11100011#8, .set_4_E),
    (0b11100100#8, .set_4_H), (0b11100101#8, .set_4_L), (0b11100110#8, .set_4_mHL), (0b11100111#8, .set_4_A),
    (0b11101000#8, .set_5_B), (0b11101001#8, .set_5_C), (0b11101010#8, .set_5_D), (0b11101011#8, .set_5_E),
    (0b11101100#8, .set_5_H), (0b11101101#8, .set_5_L), (0b11101110#8, .set_5_mHL), (0b11101111#8, .set_5_A)] = true := by decide

theorem test_decode_extended_Fx :
  extendedRows [
    (0b11110000#8, .set_6_B), (0b11110001#8, .set_6_C), (0b11110010#8, .set_6_D), (0b11110011#8, .set_6_E),
    (0b11110100#8, .set_6_H), (0b11110101#8, .set_6_L), (0b11110110#8, .set_6_mHL), (0b11110111#8, .set_6_A),
    (0b11111000#8, .set_7_B), (0b11111001#8, .set_7_C), (0b11111010#8, .set_7_D), (0b11111011#8, .set_7_E),
    (0b11111100#8, .set_7_H), (0b11111101#8, .set_7_L), (0b11111110#8, .set_7_mHL), (0b11111111#8, .set_7_A)] = true := by decide

/-! ## 8-bit loads (95_test_vectors.md, T2.1) -/

/-- T2.1.3: LD E,A (R100). -/
theorem test_T2_1_3 :
    after (fun t => (t.e, t.flags)) { (startAt 0x0100#16 [0x5F#8]) with flags := ⟨true, true, true, true⟩, a := 0x99#8 } =
      some (0x99#8, ⟨true, true, true, true⟩) := by decide

/-- T2.1.4: LD H,(HL) (R101). -/
theorem test_T2_1_4 :
    after (fun t => (t.h, t.cyc)) { ((startAt 0x0100#16 [0x66#8]).setByte 0xC000#16 0x77#8) with h := 0xC0#8, l := 0x00#8 } =
      some (0x77#8, 8) := by decide

/-- T2.1.6: LD (HL),L (R102). -/
theorem test_T2_1_6 :
    after (fun t => t.byteAt 0xC034#16) { (startAt 0x0100#16 [0x75#8]) with h := 0xC0#8, l := 0x34#8 } =
      some 0x34#8 := by decide

/-- T2.1.8: LD D,0xFF (R103). -/
theorem test_T2_1_8 :
    after (fun t => (t.d, t.pc)) (startAt 0x0100#16 [0x16#8, 0xFF#8]) =
      some (0xFF#8, 0x0102#16) := by decide

/-- T2.1.9: LD A,0x00 (R103). -/
theorem test_T2_1_9 :
    after (fun t => (t.a, t.flags)) { (startAt 0x0100#16 [0x3E#8, 0x00#8]) with flags := ⟨false, false, false, false⟩, a := 0x55#8 } =
      some (0x00#8, ⟨false, false, false, false⟩) := by decide

/-- T2.1.10: LD (HL),0xAB (R104). -/
theorem test_T2_1_10 :
    after (fun t => (t.byteAt 0xC000#16, t.cyc)) { (startAt 0x0100#16 [0x36#8, 0xAB#8]) with h := 0xC0#8, l := 0x00#8 } =
      some (0xAB#8, 12) := by decide

/-- T2.1.11: LD (BC),A (R106). -/
theorem test_T2_1_11 :
    after (fun t => t.byteAt 0xC010#16) { (startAt 0x0100#16 [0x02#8]) with b := 0xC0#8, c := 0x10#8, a := 0x42#8 } =
      some 0x42#8 := by decide

/-- T2.1.13: LD (HL+),A (R108). -/
theorem test_T2_1_13 :
    after (fun t => (t.byteAt 0xC0FF#16, t.h, t.l)) { (startAt 0x0100#16 [0x22#8]) with h := 0xC0#8, l := 0xFF#8, a := 0x44#8 } =
      some (0x44#8, 0xC1#8, 0x00#8) := by decide

/-- T2.1.14: LD (HL+),A (R108). -/
theorem test_T2_1_14 :
    after (fun t => (t.byteAt 0xFFFF#16, t.h, t.l)) { (startAt 0x0100#16 [0x22#8]) with h := 0xFF#8, l := 0xFF#8, a := 0x45#8 } =
      some (0x45#8, 0x00#8, 0x00#8) := by decide

/-- T2.1.15: LD (HL-),A (R109). -/
theorem test_T2_1_15 :
    after (fun t => (t.byteAt 0x0000#16, t.h, t.l)) { (startAt 0x0100#16 [0x32#8]) with h := 0x00#8, l := 0x00#8, a := 0x46#8 } =
      some (0x46#8, 0xFF#8, 0xFF#8) := by decide

/-- T2.1.17: LD A,(BC) (R110). -/
theorem test_T2_1_17 :
    after (fun t => t.a) { ((startAt 0x0100#16 [0x0A#8]).setByte 0xC020#16 0x61#8) with b := 0xC0#8, c := 0x20#8 } =
      some 0x61#8 := by decide

/-- T2.1.19: LD A,(HL+) (R112). -/
theorem test_T2_1_19 :
    after (fun t => (t.a, t.h, t.l)) { ((startAt 0x0100#16 [0x2A#8]).setByte 0xFFFF#16 0x63#8) with h := 0xFF#8, l := 0xFF#8 } =
      some (0x63#8, 0x00#8, 0x00#8) := by decide

/-- T2.1.20: LD A,(HL-) (R113). -/
theorem test_T2_1_20 :
    after (fun t => (t.a, t.h, t.l)) { ((startAt 0x0100#16 [0x3A#8]).setByte 0xC000#16 0x64#8) with h := 0xC0#8, l := 0x00#8 } =
      some (0x64#8, 0xBF#8, 0xFF#8) := by decide

/-! ## 8-bit arithmetic and logic (95_test_vectors.md, T2.2) -/

/-- T2.2.1: ADD A,B (R122). -/
theorem test_T2_2_1 :
    after (fun t => (t.a, t.flags)) { (startAt 0x0100#16 [0x80#8]) with a := 0x0F#8, b := 0x01#8 } =
      some (0x10#8, ⟨false, false, true, false⟩) := by decide

/-- T2.2.9: ADC A,E (R123). -/
theorem test_T2_2_9 :
    after (fun t => (t.a, t.flags)) { (startAt 0x0100#16 [0x8B#8]) with flags := ⟨false, false, false, true⟩, a := 0x0E#8, e := 0x01#8 } =
      some (0x10#8, ⟨false, false, true, false⟩) := by decide

/-- T2.2.14: SUB 0x01 (R124). -/
theorem test_T2_2_14 :
    after (fun t => (t.a, t.flags)) { (startAt 0x0100#16 [0xD6#8, 0x01#8]) with a := 0x00#8 } =
      some (0xFF#8, ⟨false, true, true, true⟩) := by decide

/-- T2.2.18: SUB C (R124). -/
theorem test_T2_2_18 :
    after (fun t => (t.a, t.flags)) { (startAt 0x0100#16 [0x91#8]) with a := 0x10#8, c := 0x20#8 } =
      some (0xF0#8, ⟨false, true, false, true⟩) := by decide

/-- T2.2.20: SBC A,B (R125). -/
theorem test_T2_2_20 :
    after (fun t => (t.a, t.flags)) { (startAt 0x0100#16 [0x98#8]) with flags := ⟨false, false, false, true⟩, a := 0x10#8, b := 0x0F#8 } =
      some (0x00#8, ⟨true, true, true, false⟩) := by decide

/-- T2.2.21: SBC A,0xFF (R125). -/
theorem test_T2_2_21 :
    after (fun t => (t.flags, t.pc)) { (startAt 0x0100#16 [0xDE#8, 0xFF#8]) with flags := ⟨false, false, false, true⟩, a := 0x00#8 } =
      some (⟨true, true, true, true⟩, 0x0102#16) := by decide

/-- T2.2.25: AND B (R126). -/
theorem test_T2_2_25 :
    after (fun t => (t.a, t.flags)) { (startAt 0x0100#16 [0xA0#8]) with a := 0x5A#8, b := 0x3F#8 } =
      some (0x1A#8, ⟨false, false, true, false⟩) := by decide

/-- T2.2.26: AND 0x0F (R126). -/
theorem test_T2_2_26 :
    after (fun t => (t.a, t.flags)) { (startAt 0x0100#16 [0xE6#8, 0x0F#8]) with flags := ⟨false, true, false, true⟩, a := 0xF0#8 } =
      some (0x00#8, ⟨true, false, true, false⟩) := by decide

/-- T2.2.30: XOR (HL) (R127). -/
theorem test_T2_2_30 :
    after (fun t => (t.a, t.flags)) { ((startAt 0x0100#16 [0xAE#8]).setByte 0xC000#16 0xAA#8) with a := 0x55#8, h := 0xC0#8, l := 0x00#8 } =
      some (0xFF#8, ⟨false, false, false, false⟩) := by decide

/-- T2.2.31: OR B (R128). -/
theorem test_T2_2_31 :
    after (fun t => (t.flags, t.pc)) { (startAt 0x0100#16 [0xB0#8]) with flags := ⟨false, true, true, true⟩, a := 0x00#8, b := 0x00#8 } =
      some (⟨true, false, false, false⟩, 0x0101#16) := by decide

/-- T2.2.35: CP B (R129). -/
theorem test_T2_2_35 :
    after (fun t => (t.flags, t.pc)) { (startAt 0x0100#16 [0xB8#8]) with a := 0x3C#8, b := 0x40#8 } =
      some (⟨false, true, false, true⟩, 0x0101#16) := by decide

/-! ## Increment and decrement (95_test_vectors.md, T2.3) -/

/-- T2.3.2: INC A (R130). -/
theorem test_T2_3_2 :
    after (fun t => (t.a, t.flags)) { (startAt 0x0100#16 [0x3C#8]) with flags := ⟨false, true, false, true⟩, a := 0xFF#8 } =
      some (0x00#8, ⟨true, false, true, true⟩) := by decide

/-- T2.3.3: INC (HL) (R130). -/
theorem test_T2_3_3 :
    after (fun t => (t.byteAt 0xC000#16, t.cyc)) { ((startAt 0x0100#16 [0x34#8]).setByte 0xC000#16 0x4F#8) with h := 0xC0#8, l := 0x00#8 } =
      some (0x50#8, 12) := by decide

/-- T2.3.4: INC L (R130). -/
theorem test_T2_3_4 :
    after (fun t => (t.l, t.flags)) { (startAt 0x0100#16 [0x2C#8]) with h := 0x12#8, l := 0xFF#8 } =
      some (0x00#8, ⟨true, false, true, false⟩) := by decide

/-- T2.3.6: DEC B (R131). -/
theorem test_T2_3_6 :
    after (fun t => (t.b, t.flags)) { (startAt 0x0100#16 [0x05#8]) with flags := ⟨false, false, false, true⟩, b := 0x01#8 } =
      some (0x00#8, ⟨true, true, false, true⟩) := by decide

/-- T2.3.8: DEC (HL) (R131). -/
theorem test_T2_3_8 :
    after (fun t => (t.byteAt 0xC000#16, t.flags)) { ((startAt 0x0100#16 [0x35#8]).setByte 0xC000#16 0x10#8) with h := 0xC0#8, l := 0x00#8 } =
      some (0x0F#8, ⟨false, true, true, false⟩) := by decide

/-! ## 16-bit instructions (95_test_vectors.md, T2.4) -/

/-- T2.4.1: LD BC,0x1234 (R150). -/
theorem test_T2_4_1 :
    after (fun t => (t.b, t.c, t.pc)) (startAt 0x0100#16 [0x01#8, 0x34#8, 0x12#8]) =
      some (0x12#8, 0x34#8, 0x0103#16) := by decide

/-- T2.4.2: LD SP,0xFFFE (R150). -/
theorem test_T2_4_2 :
    after (fun t => t.sp) (startAt 0x0100#16 [0x31#8, 0xFE#8, 0xFF#8]) =
      some 0xFFFE#16 := by decide

/-- T2.4.3: LD HL,0xC000 (R150). -/
theorem test_T2_4_3 :
    after (fun t => (t.h, t.flags)) { (startAt 0x0100#16 [0x21#8, 0x00#8, 0xC0#8]) with flags := ⟨true, true, true, true⟩ } =
      some (0xC0#8, ⟨true, true, true, true⟩) := by decide

/-- T2.4.4: INC HL (R151). -/
theorem test_T2_4_4 :
    after (fun t => (t.h, t.l, t.flags)) { (startAt 0x0100#16 [0x23#8]) with flags := ⟨false, true, false, true⟩, h := 0xFF#8, l := 0xFF#8 } =
      some (0x00#8, 0x00#8, ⟨false, true, false, true⟩) := by decide

/-- T2.4.7: DEC BC (R152). -/
theorem test_T2_4_7 :
    after (fun t => (t.b, t.c, t.flags)) { (startAt 0x0100#16 [0x0B#8]) with b := 0x00#8, c := 0x00#8 } =
      some (0xFF#8, 0xFF#8, ⟨false, false, false, false⟩) := by decide

/-- T2.4.12: ADD HL,DE (R153). -/
theorem test_T2_4_12 :
    after (fun t => (t.h, t.flags)) { (startAt 0x0100#16 [0x19#8]) with flags := ⟨true, false, false, true⟩, h := 0x0F#8, l := 0xFF#8, d := 0x00#8, e := 0x01#8 } =
      some (0x10#8, ⟨true, false, true, false⟩) := by decide

/-- T2.4.13: ADD HL,SP (R153). -/
theorem test_T2_4_13 :
    after (fun t => (t.h, t.l, t.flags)) { (startAt 0x0100#16 [0x39#8]) with h := 0xFF#8, l := 0xFF#8, sp := 0x0001#16 } =
      some (0x00#8, 0x00#8, ⟨false, false, true, true⟩) := by decide

/-! ## The stack (95_test_vectors.md, T2.5) -/

/-- T2.5.1: PUSH BC (R154, R156). -/
theorem test_T2_5_1 :
    after (fun t => (t.sp, t.byteAt 0xCFFE#16, t.byteAt 0xCFFF#16)) { (startAt 0x0100#16 [0xC5#8]) with sp := 0xD000#16, b := 0x12#8, c := 0x34#8 } =
      some (0xCFFE#16, 0x34#8, 0x12#8) := by decide

/-- T2.5.3: PUSH AF (R154). -/
theorem test_T2_5_3 :
    after (fun t => (t.byteAt 0xCFFE#16, t.byteAt 0xCFFF#16)) { (startAt 0x0100#16 [0xF5#8]) with flags := ⟨false, false, false, false⟩, sp := 0xD000#16, a := 0x12#8, f := 0xFF#8 } =
      some (0xFF#8, 0x12#8) := by decide

/-- T2.5.4: POP AF (R155). -/
theorem test_T2_5_4 :
    after (fun t => (t.a, t.f, t.flags)) { (((startAt 0x0100#16 [0xF1#8]).setByte 0xCFFE#16 0x0F#8).setByte 0xCFFF#16 0x34#8) with flags := ⟨true, false, true, false⟩, sp := 0xCFFE#16 } =
      some (0x34#8, 0x0F#8, ⟨true, false, true, false⟩) := by decide

/-- T2.5.5: PUSH HL (R156). -/
theorem test_T2_5_5 :
    after (fun t => (t.sp, t.byteAt 0xFFFE#16, t.byteAt 0xFFFF#16)) { (startAt 0x0100#16 [0xE5#8]) with sp := 0x0000#16, h := 0xAB#8, l := 0xCD#8 } =
      some (0xFFFE#16, 0xCD#8, 0xAB#8) := by decide

/-- T2.5.6: POP HL (R157). -/
theorem test_T2_5_6 :
    after (fun t => (t.h, t.l, t.sp)) { (((startAt 0x0100#16 [0xE1#8]).setByte 0xFFFE#16 0xCD#8).setByte 0xFFFF#16 0xAB#8) with sp := 0xFFFE#16 } =
      some (0xAB#8, 0xCD#8, 0x0000#16) := by decide

/-! ## Control transfer (95_test_vectors.md, T2.6) -/

/-- T2.6.1: NOP (R170). -/
theorem test_T2_6_1 :
    after (fun t => (t.pc, t.flags)) { (startAt 0x0100#16 [0x00#8]) with flags := ⟨true, false, true, false⟩ } =
      some (0x0101#16, ⟨true, false, true, false⟩) := by decide

/-- T2.6.2: HALT (R171). -/
theorem test_T2_6_2 :
    after (fun t => (t.pc, t.cyc)) { ((startAt 0x0100#16 [0x76#8]).setByte 0xC000#16 0x55#8) with h := 0xC0#8, l := 0x00#8 } =
      some (0x0101#16, 4) := by decide

/-- T2.6.3: JP 0x0150 (R172). -/
theorem test_T2_6_3 :
    after (fun t => t.pc) (startAt 0x0100#16 [0xC3#8, 0x50#8, 0x01#8]) =
      some 0x0150#16 := by decide

/-- T2.6.6: JP NC,0x0200 (R173 not taken). -/
theorem test_T2_6_6 :
    after (fun t => (t.pc, t.cyc)) { (startAt 0x0100#16 [0xD2#8, 0x00#8, 0x02#8]) with flags := ⟨false, false, false, true⟩ } =
      some (0x0103#16, 12) := by decide

/-- T2.6.10: JR -128 (R174). -/
theorem test_T2_6_10 :
    after (fun t => t.pc) (startAt 0x0000#16 [0x18#8, 0x80#8]) =
      some 0xFF82#16 := by decide

/-- T2.6.11: JR +127 (R174). -/
theorem test_T2_6_11 :
    after (fun t => t.pc) (startAt 0xFFF0#16 [0x18#8, 0x7F#8]) =
      some 0x0071#16 := by decide

/-- T2.6.12: JR NZ,-4 (R175 taken). -/
theorem test_T2_6_12 :
    after (fun t => (t.pc, t.cyc)) { (startAt 0x0104#16 [0x20#8, 0xFC#8]) with flags := ⟨false, true, false, false⟩ } =
      some (0x0102#16, 12) := by decide

/-- T2.6.13: JR NZ,-4 (R175, R176 not taken). -/
theorem test_T2_6_13 :
    after (fun t => (t.pc, t.cyc)) { (startAt 0x0104#16 [0x20#8, 0xFC#8]) with flags := ⟨true, true, false, false⟩ } =
      some (0x0106#16, 8) := by decide

/-- T2.6.15: CALL 0x0200 (R178). -/
theorem test_T2_6_15 :
    after (fun t => (t.pc, t.byteAt 0xCFFE#16, t.byteAt 0xCFFF#16)) { (startAt 0x0100#16 [0xCD#8, 0x00#8, 0x02#8]) with sp := 0xD000#16 } =
      some (0x0200#16, 0x03#8, 0x01#8) := by decide

/-- T2.6.16: CALL C,0x1234 (R179 taken). -/
theorem test_T2_6_16 :
    after (fun t => (t.pc, t.sp)) { (startAt 0x0100#16 [0xDC#8, 0x34#8, 0x12#8]) with flags := ⟨false, false, false, true⟩, sp := 0xD000#16 } =
      some (0x1234#16, 0xCFFE#16) := by decide

/-- T2.6.17: CALL C,0x1234 (R179, R176 not taken). -/
theorem test_T2_6_17 :
    after (fun t => (t.pc, t.cyc)) { (startAt 0x0100#16 [0xDC#8, 0x34#8, 0x12#8]) with flags := ⟨false, false, false, false⟩, sp := 0xD000#16 } =
      some (0x0103#16, 12) := by decide

/-- T2.6.18: RET (R180). -/
theorem test_T2_6_18 :
    after (fun t => (t.pc, t.sp)) { (((startAt 0x0200#16 [0xC9#8]).setByte 0xCFFE#16 0x03#8).setByte 0xCFFF#16 0x01#8) with sp := 0xCFFE#16 } =
      some (0x0103#16, 0xD000#16) := by decide

/-- T2.6.20: RET Z (R181, R176 not taken). -/
theorem test_T2_6_20 :
    after (fun t => (t.pc, t.cyc)) { (((startAt 0x0210#16 [0xC8#8]).setByte 0xCFFE#16 0x03#8).setByte 0xCFFF#16 0x01#8) with flags := ⟨false, false, false, false⟩, sp := 0xCFFE#16 } =
      some (0x0211#16, 8) := by decide

/-- T2.6.21: RETI (R182). -/
theorem test_T2_6_21 :
    after (fun t => (t.pc, t.flags)) { (((startAt 0x0200#16 [0xD9#8]).setByte 0xCFFE#16 0x03#8).setByte 0xCFFF#16 0x01#8) with flags := ⟨true, true, true, true⟩, sp := 0xCFFE#16 } =
      some (0x0103#16, ⟨true, true, true, true⟩) := by decide

/-- T2.6.22: RST 28H (R184). -/
theorem test_T2_6_22 :
    after (fun t => (t.pc, t.byteAt 0xCFFE#16, t.byteAt 0xCFFF#16)) { (startAt 0x0150#16 [0xEF#8]) with flags := ⟨false, false, true, true⟩, sp := 0xD000#16 } =
      some (0x0028#16, 0x51#8, 0x01#8) := by decide

/-- T2.6.25: CALL 0x0200 (R178 overlap corner: the push lands on the operand bytes). -/
theorem test_T2_6_25 :
    after (fun t => (t.pc, t.byteAt 0x0102#16, t.byteAt 0x0103#16)) { (startAt 0x0100#16 [0xCD#8, 0x00#8, 0x02#8]) with sp := 0x0104#16 } =
      some (0x0300#16, 0x03#8, 0x01#8) := by decide

/-! ## The extended table (95_test_vectors.md, T2.7) -/

/-- T2.7.1: RLC B (R203). -/
theorem test_T2_7_1 :
    after (fun t => (t.b, t.flags)) { (startAt 0x0100#16 [0xCB#8, 0x00#8]) with b := 0x85#8 } =
      some (0x0B#8, ⟨false, false, false, true⟩) := by decide

/-- T2.7.3: RRC C (R204). -/
theorem test_T2_7_3 :
    after (fun t => (t.c, t.flags)) { (startAt 0x0100#16 [0xCB#8, 0x09#8]) with c := 0x01#8 } =
      some (0x80#8, ⟨false, false, false, true⟩) := by decide

/-- T2.7.5: RL D (R205). -/
theorem test_T2_7_5 :
    after (fun t => (t.d, t.flags)) { (startAt 0x0100#16 [0xCB#8, 0x12#8]) with flags := ⟨false, false, false, true⟩, d := 0x11#8 } =
      some (0x23#8, ⟨false, false, false, false⟩) := by decide

/-- T2.7.7: RR E (R206). -/
theorem test_T2_7_7 :
    after (fun t => (t.e, t.flags)) { (startAt 0x0100#16 [0xCB#8, 0x1B#8]) with flags := ⟨false, false, false, true⟩, e := 0x8A#8 } =
      some (0xC5#8, ⟨false, false, false, false⟩) := by decide

/-- T2.7.8: SLA D (R207). -/
theorem test_T2_7_8 :
    after (fun t => (t.d, t.flags)) { (startAt 0x0100#16 [0xCB#8, 0x22#8]) with d := 0xFF#8 } =
      some (0xFE#8, ⟨false, false, false, true⟩) := by decide

/-- T2.7.9: SLA (HL) (R207). -/
theorem test_T2_7_9 :
    after (fun t => (t.byteAt 0xC000#16, t.flags)) { ((startAt 0x0100#16 [0xCB#8, 0x26#8]).setByte 0xC000#16 0x80#8) with h := 0xC0#8, l := 0x00#8 } =
      some (0x00#8, ⟨true, false, false, true⟩) := by decide

/-- T2.7.10: SRA A (R208). -/
theorem test_T2_7_10 :
    after (fun t => (t.a, t.flags)) { (startAt 0x0100#16 [0xCB#8, 0x2F#8]) with a := 0x8A#8 } =
      some (0xC5#8, ⟨false, false, false, false⟩) := by decide

/-- T2.7.12: SWAP A (R209). -/
theorem test_T2_7_12 :
    after (fun t => (t.a, t.flags)) { (startAt 0x0100#16 [0xCB#8, 0x37#8]) with flags := ⟨false, false, false, true⟩, a := 0xF1#8 } =
      some (0x1F#8, ⟨false, false, false, false⟩) := by decide

/-- T2.7.14: SRL (HL) (R210). -/
theorem test_T2_7_14 :
    after (fun t => (t.byteAt 0xC000#16, t.flags)) { ((startAt 0x0100#16 [0xCB#8, 0x3E#8]).setByte 0xC000#16 0xFF#8) with h := 0xC0#8, l := 0x00#8 } =
      some (0x7F#8, ⟨false, false, false, true⟩) := by decide

/-- T2.7.15: SRL H (R210). -/
theorem test_T2_7_15 :
    after (fun t => (t.h, t.flags)) { (startAt 0x0100#16 [0xCB#8, 0x3C#8]) with h := 0x01#8 } =
      some (0x00#8, ⟨true, false, false, true⟩) := by decide

/-- T2.7.16: BIT 7,H (R211). -/
theorem test_T2_7_16 :
    after (fun t => (t.flags, t.pc)) { (startAt 0x0100#16 [0xCB#8, 0x7C#8]) with flags := ⟨true, true, false, true⟩, h := 0x80#8 } =
      some (⟨false, false, true, true⟩, 0x0102#16) := by decide

/-- T2.7.18: BIT 0,(HL) (R211). -/
theorem test_T2_7_18 :
    after (fun t => (t.flags, t.cyc)) { ((startAt 0x0100#16 [0xCB#8, 0x46#8]).setByte 0xC000#16 0xFE#8) with h := 0xC0#8, l := 0x00#8 } =
      some (⟨true, false, true, false⟩, 8) := by decide

/-- T2.7.19: RES 0,A (R212). -/
theorem test_T2_7_19 :
    after (fun t => (t.a, t.flags)) { (startAt 0x0100#16 [0xCB#8, 0x87#8]) with flags := ⟨true, true, true, true⟩, a := 0xFF#8 } =
      some (0xFE#8, ⟨true, true, true, true⟩) := by decide

/-- T2.7.21: SET 7,(HL) (R213). -/
theorem test_T2_7_21 :
    after (fun t => (t.byteAt 0xC000#16, t.pc)) { (startAt 0x0100#16 [0xCB#8, 0xFE#8]) with h := 0xC0#8, l := 0x00#8 } =
      some (0x80#8, 0x0102#16) := by decide

/-- T2.7.22: SET 1,E (R213). -/
theorem test_T2_7_22 :
    after (fun t => (t.e, t.pc)) { (startAt 0x0100#16 [0xCB#8, 0xCB#8]) with e := 0x00#8 } =
      some (0x02#8, 0x0102#16) := by decide

/-! ## The Timing Scheduler (95_test_vectors.md, T2.8) -/

/-- T2.8.1: NOP (R280). -/
theorem test_T2_8_1 :
    after (fun t => t.cyc) { (startAt 0x0100#16 [0x00#8]) with cyc := 448 } =
      some 452 := by decide

/-- T2.8.2: NOP (R280, R281). -/
theorem test_T2_8_2 :
    after (fun t => (t.cyc, t.byteAt 0xFF44#16)) { (startAt 0x0100#16 [0x00#8]) with cyc := 452 } =
      some (0, 0x01#8) := by decide

/-- T2.8.3: CALL 0x0200 (R280). -/
theorem test_T2_8_3 :
    after (fun t => (t.cyc, t.byteAt 0xFF44#16)) { (startAt 0x0100#16 [0xCD#8, 0x00#8, 0x02#8]) with cyc := 452, sp := 0xD000#16 } =
      some (0, 0x01#8) := by decide

/-- T2.8.4: NOP (R281). -/
theorem test_T2_8_4 :
    after (fun t => (t.cyc, t.byteAt 0xFF44#16)) { ((startAt 0x0100#16 [0x00#8]).setByte 0xFF44#16 0x99#8) with cyc := 452 } =
      some (0, 0x00#8) := by decide

/-- T2.8.6: NOP (R281). -/
theorem test_T2_8_6 :
    after (fun t => t.byteAt 0xFF44#16) { ((startAt 0x0100#16 [0x00#8]).setByte 0xFF44#16 0xC8#8) with cyc := 452 } =
      some 0x00#8 := by decide

/-- T2.8.8: LD (HL),0x05 (R281). -/
theorem test_T2_8_8 :
    after (fun t => (t.byteAt 0xFF44#16, t.cyc)) { ((startAt 0x0100#16 [0x36#8, 0x05#8]).setByte 0xFF44#16 0x20#8) with cyc := 448, h := 0xFF#8, l := 0x44#8 } =
      some (0x06#8, 0) := by decide

/-- T2.8.9: JR NZ,+0 (R311). -/
theorem test_T2_8_9 :
    after (fun t => (t.cyc, t.byteAt 0xFF44#16)) { (startAt 0x0100#16 [0x20#8, 0x00#8]) with flags := ⟨false, false, false, false⟩, cyc := 444 } =
      some (0, 0x01#8) := by decide

/-- T2.8.10: JR NZ,+0 (R311). -/
theorem test_T2_8_10 :
    after (fun t => t.cyc) { (startAt 0x0100#16 [0x20#8, 0x00#8]) with flags := ⟨true, false, false, false⟩, cyc := 444 } =
      some 452 := by decide

/-- T2.8.11: SET 7,(HL) (R214, R312). -/
theorem test_T2_8_11 :
    after (fun t => (t.cyc, t.byteAt 0xFF44#16)) { (startAt 0x0100#16 [0xCB#8, 0xFE#8]) with cyc := 448, h := 0xC0#8, l := 0x00#8 } =
      some (0, 0x01#8) := by decide

/-! ## Failures and corners (95_test_vectors.md, T2.9) -/

/-- T2.9.1: (0xD3) (R260, R270). -/
theorem test_T2_9_1 :
    failureOf { (startAt 0x0100#16 [0xD3#8]) with a := 0x11#8 } = some (.unsupportedOpcode 0xD3#8) := by decide

/-- T2.9.2: (0xFD) (R260). -/
theorem test_T2_9_2 :
    failureOf (startAt 0x0100#16 [0xFD#8, 0x00#8]) = some (.unsupportedOpcode 0xFD#8) := by decide

/-- T2.9.3: STOP (R240, R271). -/
theorem test_T2_9_3 :
    failureOf (startAt 0x0100#16 [0x10#8, 0x00#8]) = some (.unimplementedInstruction "STOP") := by decide

/-- T2.9.8: LD (a16),SP (R239, R274). -/
theorem test_T2_9_8 :
    failureOf (startAt 0xFFFE#16 [0x08#8]) = some (.unimplementedInstruction "LD (a16),SP") := by decide

/-- T2.9.9: LD BC,d16 (R150, R272). -/
theorem test_T2_9_9 :
    failureOf (startAt 0xFFFE#16 [0x01#8, 0x34#8]) = some (.addressOutOfRange 0xFFFF#16) := by decide

/-- T2.9.11: JP NZ,d16 (R176). -/
theorem test_T2_9_11 :
    after (fun t => (t.pc, t.cyc)) { (startAt 0xFFFE#16 [0xC2#8, 0x00#8]) with flags := ⟨true, false, false, false⟩ } =
      some (0x0001#16, 12) := by decide

/-- T2.9.12: JP NZ,d16 (R173, R272). -/
theorem test_T2_9_12 :
    failureOf { (startAt 0xFFFE#16 [0xC2#8, 0x00#8]) with flags := ⟨false, false, false, false⟩ } = some (.addressOutOfRange 0xFFFF#16) := by decide

/-- T2.9.13: PUSH BC (R156, R272). -/
theorem test_T2_9_13 :
    failureOf { (startAt 0x0100#16 [0xC5#8]) with sp := 0x0001#16, b := 0x12#8, c := 0x34#8 } = some (.addressOutOfRange 0xFFFF#16) := by decide

/-- T2.9.14: PUSH BC (R156). -/
theorem test_T2_9_14 :
    after (fun t => (t.sp, t.byteAt 0x0000#16, t.byteAt 0x0001#16)) { (startAt 0x0100#16 [0xC5#8]) with sp := 0x0002#16, b := 0x12#8, c := 0x34#8 } =
      some (0x0000#16, 0x34#8, 0x12#8) := by decide

/-- T2.9.16: CALL 0x0200 (R178, R272). -/
theorem test_T2_9_16 :
    failureOf { (startAt 0x0100#16 [0xCD#8, 0x00#8, 0x02#8]) with sp := 0x0001#16 } = some (.addressOutOfRange 0xFFFF#16) := by decide

/-- T2.9.17: RET NZ (R181). -/
theorem test_T2_9_17 :
    after (fun t => t.pc) { (startAt 0x0100#16 [0xC0#8]) with flags := ⟨true, false, false, false⟩, sp := 0xFFFF#16 } =
      some 0x0101#16 := by decide

/-- T2.9.18: RET (R180, R272). -/
theorem test_T2_9_18 :
    failureOf { (startAt 0x0100#16 [0xC9#8]) with sp := 0xFFFF#16 } = some (.addressOutOfRange 0xFFFF#16) := by decide

/-- T2.9.19: RST 08H (R184, R272). -/
theorem test_T2_9_19 :
    failureOf { (startAt 0x0100#16 [0xCF#8]) with sp := 0x0001#16 } = some (.addressOutOfRange 0xFFFF#16) := by decide

/-- T2.9.20: LD A,0x42 (R91, R24). -/
theorem test_T2_9_20 :
    after (fun t => (t.a, t.pc)) ((startAt 0xFFFF#16 [0x3E#8]).setByte 0x0000#16 0x42#8) =
      some (0x42#8, 0x0001#16) := by decide

/-! ## WellFormed: the check refuses each ill-formed term (30_encoding.md R72, R74) -/

/-- The bare escape is no whole instruction (R72). -/
theorem test_wellFormed_refuses_escape : Instr.prefix_CB.wellFormed = false := by decide

/-- The eleven bytes without a meaning (R74). -/
theorem test_wellFormed_refuses_unsupported :
    [Instr.unsupported_D3, .unsupported_DB, .unsupported_DD, .unsupported_E3, .unsupported_E4, .unsupported_EB,
      .unsupported_EC, .unsupported_ED, .unsupported_F4, .unsupported_FC, .unsupported_FD].all
      (fun i => !i.wellFormed) = true := by decide

/-- An unimplemented instruction is well formed: it decodes and has a length (R75). -/
theorem test_wellFormed_accepts : [Instr.nop, .set_1_E, .daa].all Instr.wellFormed = true := by decide

/-! ## The decoder's edges, the host's words, reset, external access -/

/-- No byte at all, and an escape with nothing after it, do not decode (30_encoding.md R72). -/
theorem test_decode_refuses : decode [] = none ∧ decode [0xCB#8] = none := by decide

/-- Operand bytes are left to the interpreter (30_encoding.md R77). -/
theorem test_decode_leaves_operands : decode [0xCD#8, 0x34#8, 0x12#8] = some (.call_a16, [0x34#8, 0x12#8]) := by decide

/-- The spellings of 30_encoding.md R78. -/
theorem test_text : Instr.ld_A_mHLI.text = "LD A,(HL+)" ∧ Instr.rst_28H.text = "RST 28H" ∧
    Instr.bit_7_H.text = "BIT 7,H" ∧ Instr.sub_B.text = "SUB B" := by decide

/-- Rows of the table as opcode_table.json numbers their bits: `JP a16`, the escape, `SRL (HL)`. -/
theorem test_tableWord : decodeTableWord 24 0x0000C3 = some .jp_a16 ∧ decodeTableWord 8 0xCB = some .prefix_CB ∧
    decodeTableWord 16 0xCB3E = some .srl_mHL := by decide

/-- The first step after the placing of a row's word runs it: `SWAP B` of 0, `LD A,d8` with operand byte 0. -/
theorem test_withFetchWord : after (fun t => (t.pc, t.flags.z)) (State.reset.withFetchWord 16 0xCB30) =
      some (0x0002#16, true) ∧
    after (fun t => (t.pc, t.a)) (State.reset.withFetchWord 16 0x003E) = some (0x0002#16, 0x00#8) := by decide

theorem test_reset_memory : State.reset.mem.wf = true := by decide

/-- T1.9: step 1 of the source's scenario from its boot image. -/
theorem test_T1_9 : after (fun t => (t.a, t.pc, t.cyc)) (boot [0x3E#8, 0x05#8, 0x06#8, 0x03#8, 0x80#8, 0x00#8]) =
    some (0x05#8, 0x0002#16, 8) := by decide

/-- A boot image that does not fit is truncated at the top, not wrapped (70_reset_and_hazards.md R301). -/
theorem test_boot_truncated :
    let s := State.resetWith { defaultConfig with bootBase := 0xFFFF#16, bootImage := [0x11#8, 0x22#8] }
    s.byteAt 0xFFFF#16 = 0x11#8 ∧ s.byteAt 0x0000#16 = 0x00#8 := by decide

/-- A program put in by pre-fill before the first step runs (70_reset_and_hazards.md R305): `INC B`. -/
theorem test_prefill : after (fun t => t.b) (prefill [(0x0000#16, 0x04#8)] (boot [])) = some 0x01#8 := by decide

/-- The observer's reading of the scanline byte at the default blanking index 144 (60_exceptions.md R283). -/
theorem test_blanking : atBlankingLine defaultConfig (surfaceWrite8 0xFF44#16 0x90#8 State.reset) = true ∧
    atBlankingLine defaultConfig State.reset = false := by decide

/-! ## Witnesses: for each obligation with hypotheses, a state and operands that meet them, clause by clause -/

/-- A state at the boundaries: HL and `pc` at 0xFFFF, all flags on. -/
def high : State :=
  { (State.reset.setPC 0xFFFF#16) with h := 0xFF#8, l := 0xFF#8, sp := 0xFFFE#16, flags := ⟨true, true, true, true⟩ }

theorem witness_PlainViews :
    [(PairView.af, Cell.a, Cell.f), (.bc, .b, .c), (.de, .d, .e), (.hl, .h, .l)].all
      (fun x => x ∈ [(PairView.af, Cell.a, Cell.f), (.bc, .b, .c), (.de, .d, .e), (.hl, .h, .l)]) = true ∧
    (readPair .hl high).1 = 0xFFFF#16 := by decide

/-- Both views at their wrap: HL = 0xFFFF and HL = 0x0000 (10_state.md R16, R17, the corners). -/
theorem witness_AutoModifyingViews :
    (PairView.hli, 1) ∈ [(PairView.hli, 1), (.hld, 65535)] ∧ (readPair .hli high).2.hl = 0x0000#16 ∧
    (PairView.hld, 65535) ∈ [(PairView.hli, 1), (.hld, 65535)] ∧ (readPair .hld State.reset).2.hl = 0xFFFF#16 ∧
    (writePair .hli 0xFFFF#16 high).hl = 0x0000#16 ∧ (writePair .hld 0x0000#16 high).hl = 0xFFFF#16 := by decide

/-- The last address of a 16-bit access, and the first. -/
theorem witness_WordAccessLittleEndian : (0xFFFE#16).toNat < 0xFFFF ∧ (0x0000#16).toNat < 0xFFFF := by decide

/-- Each failing access and, one address below, one that does not fail. -/
theorem witness_WordAccessFailsAtTop :
    high.wordAt 0xFFFF#16 = .fault (.addressOutOfRange 0xFFFF#16) ∧ high.wordAt 0xFFFE#16 = .next 0x0000#16 ∧
    high.setWord 0xFFFF#16 0#16 = .fault (.addressOutOfRange 0xFFFF#16) ∧
    fetch16 high = .fault (.addressOutOfRange 0xFFFF#16) ∧
    push16 0#16 (high.setSP 0x0001#16) = .fault (.addressOutOfRange 0xFFFF#16) ∧
    pop16 (high.setSP 0xFFFF#16) = .fault (.addressOutOfRange 0xFFFF#16) := ⟨rfl, rfl, rfl, rfl, rfl, rfl⟩

theorem witness_ExternalSurface : (0xFFFE#16).toNat < 0xFFFF := by decide

theorem witness_DecodeOfEncode : Instr.set_7_mHL.wellFormed = true ∧ Instr.ld_B_B.wellFormed = true ∧
    Instr.ei.wellFormed = true := by decide

theorem witness_EncodeOfDecode : decode [0xCB#8, 0xCB#8, 0x01#8] = some (.set_1_E, [0x01#8]) := by decide

/-- The first clause at `pc` = 0xFFFF with an escape whose second byte is at 0x0000; the second with 0xD3. -/
theorem witness_StepRunsDecoded :
    let s := (high.setByte 0xFFFF#16 0xCB#8).setByte 0x0000#16 0x37#8
    decode [s.byteAt s.pc, s.byteAt (s.pc + 1#16)] = some (.swap_A, []) ∧ Instr.swap_A.wellFormed = true ∧
    (startAt 0x0100#16 [0xD3#8]).byteAt 0x0100#16 ∈
      [0xD3#8, 0xDB#8, 0xDD#8, 0xE3#8, 0xE4#8, 0xEB#8, 0xEC#8, 0xED#8, 0xF4#8, 0xFC#8, 0xFD#8] := by decide

/-- The last `pc` at which a 16-bit operand can start. -/
theorem witness_FetchHelpers : (high.setPC 0xFFFE#16).pc ≠ 0xFFFF#16 ∧
    (fetch8 high).2.pc = 0x0000#16 := by decide

theorem witness_TakenBit :
    Instr.jr_NZ_r8 ∈ [jrccInstr .nz, jpccInstr .nz, callccInstr .nz, retccInstr .nz] ∧
    (∀ cc, Instr.jr_r8 ∉ [jrccInstr cc, jpccInstr cc, callccInstr cc, retccInstr cc]) ∧
    exec .nop high = .next high := ⟨by decide, by intro cc; cases cc <;> decide, rfl⟩

theorem witness_StepDataFlow : exec .nop high = .next high ∧
    exec .daa high = .fault (.unimplementedInstruction "DAA") := ⟨rfl, rfl⟩

theorem witness_LoadOperand : R8.m ≠ R8.m ∨ R8.h ≠ R8.m := by decide

theorem witness_AccumulatorStoresAndLoads :
    [(MemView.bc, 0), (.de, 0), (.hli, 1), (.hld, 65535)].all
      (fun x => x ∈ [(MemView.bc, 0), (.de, 0), (.hli, 1), (.hld, 65535)]) = true := by decide

/-- A register form, the memory form and the immediate form, each with its operand value; the carry set. -/
theorem witness_AddAndAdc :
    AluForm .adc high .adc_A_B 0x00#8 0 ∧ (AluOp.adc, 1) ∈ [(AluOp.add, 0), (.adc, high.flags.c.toNat)] ∧
    AluForm .add high .add_A_mHL 0x00#8 0 ∧ (AluOp.add, 0) ∈ [(AluOp.add, 0), (.adc, high.flags.c.toNat)] ∧
    AluForm .add high .add_A_d8 0x00#8 1 :=
  ⟨.inl ⟨.b, rfl, rfl, rfl⟩, by decide, .inl ⟨.m, rfl, rfl, rfl⟩, by decide, .inr ⟨rfl, rfl, rfl⟩⟩

theorem witness_SubAndCompare : AluForm .sub high .sub_H 0xFF#8 0 ∧ AluForm .cp high .cp_d8 0x00#8 1 :=
  ⟨.inl ⟨.h, rfl, rfl, rfl⟩, .inr ⟨rfl, rfl, rfl⟩⟩

theorem witness_SubtractWithCarry : AluForm .sbc high .sbc_A_mHL 0x00#8 0 ∧ AluForm .sbc high .sbc_A_d8 0x00#8 1 :=
  ⟨.inl ⟨.m, rfl, rfl, rfl⟩, .inr ⟨rfl, rfl, rfl⟩⟩

theorem witness_Logic : AluForm .and high .and_A 0x00#8 0 ∧ AluForm .xor high .xor_mHL 0x00#8 0 ∧
    AluForm .or high .or_d8 0x00#8 1 :=
  ⟨.inl ⟨.a, rfl, rfl, rfl⟩, .inl ⟨.m, rfl, rfl, rfl⟩, .inr ⟨rfl, rfl, rfl⟩⟩

theorem witness_IncrementDecrementByte :
    (Instr.inc_mHL, 1, false, 15) ∈ [(incInstr .m, 1, false, 15), (decInstr .m, 255, true, 0)] ∧
    (Instr.dec_mHL, 255, true, 0) ∈ [(incInstr .m, 1, false, 15), (decInstr .m, 255, true, 0)] := by decide

theorem witness_LoadWordImmediate : (high.setPC 0xFFFE#16).pc ≠ 0xFFFF#16 := by decide

theorem witness_IncrementDecrementWord :
    (Instr.inc_SP, 1) ∈ [(inc16Instr .sp, 1), (dec16Instr .sp, 65535)] ∧
    (Instr.dec_HL, 65535) ∈ [(inc16Instr .hl, 1), (dec16Instr .hl, 65535)] := by decide

/-- The stack pointers next to the failing one: 0x0000 and 0x0002. -/
theorem witness_PushPair :
    (R16S.af, Cell.a, Cell.f) ∈ [(R16S.bc, Cell.b, Cell.c), (.de, .d, .e), (.hl, .h, .l), (.af, .a, .f)] ∧
    (high.setSP 0x0000#16).sp ≠ 0x0001#16 ∧ (high.setSP 0x0002#16).sp ≠ 0x0001#16 := by decide

/-- The last stack pointer a pop accepts, 0xFFFE. -/
theorem witness_PopPair :
    (R16S.af, Cell.a, Cell.f) ∈ [(R16S.bc, Cell.b, Cell.c), (.de, .d, .e), (.hl, .h, .l), (.af, .a, .f)] ∧
    high.sp ≠ 0xFFFF#16 := by decide

theorem witness_PushPopRoundTrip : State.reset.sp ≠ 0x0001#16 := by decide

theorem witness_NopAndHalt : Instr.nop ∈ [Instr.nop, .halt] ∧ Instr.halt ∈ [Instr.nop, .halt] := by decide

theorem witness_JumpAbsolute : Instr.jp_Z_a16 = jpccInstr .z ∧ condHolds .z high.flags = true ∧
    (high.setPC 0xFFFE#16).pc ≠ 0xFFFF#16 := by decide

theorem witness_JumpRelative : Instr.jr_C_r8 = jrccInstr .c ∧ condHolds .c high.flags = true ∧
    Instr.jr_NZ_r8 = jrccInstr .nz ∧ condHolds .nz State.reset.flags = true := by decide

theorem witness_Call : Instr.call_NC_a16 = callccInstr .nc ∧ condHolds .nc State.reset.flags = true ∧
    State.reset.sp ≠ 0x0001#16 ∧ State.reset.pc ≠ 0xFFFF#16 := by decide

theorem witness_Return : Instr.ret_Z = retccInstr .z ∧ condHolds .z high.flags = true ∧ high.sp ≠ 0xFFFF#16 ∧
    Instr.reti ∈ [Instr.ret, .reti] := by decide

theorem witness_Restart : (high.setSP 0x0002#16).sp ≠ 0x0001#16 := by decide

/-- Each of the four, also where the taken form would fail: `pc` = 0xFFFF, and SP = 0xFFFF. -/
theorem witness_NotTakenSkips :
    (Instr.jr_NZ_r8, 1) ∈ [(jrccInstr .nz, 1), (jpccInstr .nz, 2), (callccInstr .nz, 2), (retccInstr .nz, 0)] ∧
    (Instr.jp_NZ_a16, 2) ∈ [(jrccInstr .nz, 1), (jpccInstr .nz, 2), (callccInstr .nz, 2), (retccInstr .nz, 0)] ∧
    (Instr.call_NZ_a16, 2) ∈ [(jrccInstr .nz, 1), (jpccInstr .nz, 2), (callccInstr .nz, 2), (retccInstr .nz, 0)] ∧
    (Instr.ret_NZ, 0) ∈ [(jrccInstr .nz, 1), (jpccInstr .nz, 2), (callccInstr .nz, 2), (retccInstr .nz, 0)] ∧
    condHolds .nz (high.setSP 0xFFFF#16).flags = false := by decide

theorem witness_CallReturnRoundTrip : Instr.rst_38H = rstInstr 7#3 ∧ Instr.reti ∈ [Instr.ret, .reti] ∧
    State.reset.sp ≠ 0x0001#16 ∧ State.reset.pc ≠ 0xFFFF#16 := by decide

theorem witness_RotatesAndShifts : 0x00#8 = readR8 .m high ∧ 0xFF#8 = readR8 .h high := by decide

theorem witness_BitResetAndSet :
    (Instr.res_7_A, false) ∈ [(resInstr 7#3 .a, false), (setInstr 7#3 .a, true)] ∧
    (Instr.set_7_A, true) ∈ [(resInstr 7#3 .a, false), (setInstr 7#3 .a, true)] := by decide

theorem witness_UnimplementedAndUnsupportedExactly :
    exec .ei high = .fault (.unimplementedInstruction "EI") ∧
    exec .unsupported_FD high = .fault (.unsupportedOpcode 0xFD#8) := ⟨rfl, rfl⟩

/-- Each row of the table of R272 at its boundary, and one state where it does not fail. -/
theorem witness_AddressOutOfRangeExactly :
    exec .jp_a16 high = .fault (.addressOutOfRange 0xFFFF#16) ∧
    exec .push_BC (high.setSP 0x0001#16) = .fault (.addressOutOfRange 0xFFFF#16) ∧
    exec .pop_BC (high.setSP 0xFFFF#16) = .fault (.addressOutOfRange 0xFFFF#16) ∧
    exec .call_Z_a16 high = .fault (.addressOutOfRange 0xFFFF#16) ∧ ¬ WordAccessFails Instr.jp_NZ_a16.kind high :=
  ⟨rfl, rfl, rfl, rfl, by rintro ⟨h, _⟩; cases h⟩

theorem witness_CompletesExactlyWhen : ¬ HasNoExecution Instr.nop.kind ∧ ¬ WordAccessFails Instr.nop.kind high :=
  ⟨id, id⟩

/-- Each clause at its boundary: a failing byte of each set; an operand at 0xFFFF; a taken and a not-taken jump there;
the push of a call and of a restart at SP = 0x0001; a taken return at SP = 0xFFFF. -/
theorem witness_StepFailsExactly :
    let top := fun op => (high.setPC 0xFFFE#16).setByte 0xFFFE#16 op
    failureOf (top 0xFD#8) = some (.unsupportedOpcode 0xFD#8) ∧
    failureOf (top 0x08#8) = some (.unimplementedInstruction "LD (a16),SP") ∧
    failureOf (top 0x31#8) = some (.addressOutOfRange 0xFFFF#16) ∧
    failureOf (top 0xCA#8) = some (.addressOutOfRange 0xFFFF#16) ∧ failureOf (top 0xC2#8) = none ∧
    failureOf ((startAt 0x0100#16 [0xCD#8]).setSP 0x0001#16) = some (.addressOutOfRange 0xFFFF#16) ∧
    failureOf ((startAt 0x0100#16 [0xFF#8]).setSP 0x0001#16) = some (.addressOutOfRange 0xFFFF#16) ∧
    failureOf ((top 0xC8#8).setSP 0xFFFF#16) = some (.addressOutOfRange 0xFFFF#16) := by decide

theorem witness_WritersOfFlagsFAndSP : exec .halt high = .next high ∧ ¬ WritesFlags Instr.halt.kind ∧
    Instr.halt ≠ .pop_AF ∧ ¬ WritesSP Instr.halt.kind := ⟨rfl, id, by decide, id⟩

/-- `LD A,d8` at 0xFFFF: `pc` wraps to 0x0001 (T2.9.20). -/
theorem witness_SequentialSteps :
    let s := high.setByte 0xFFFF#16 0x3E#8
    decode [s.byteAt s.pc, s.byteAt (s.pc + 1#16)] = some (.ld_A_d8, [0x00#8]) ∧
    ¬ TransfersControl Instr.ld_A_d8.kind ∧ after (fun t => t.pc) s = some 0x0001#16 := ⟨rfl, id, by decide⟩

theorem witness_MemoryFrame : ∃ t, exec .ld_mHL_B high = .next t ∧ storedBytes Instr.ld_mHL_B.kind high = [0xFFFF#16] :=
  ⟨_, rfl, rfl⟩

/-- The counter one below and exactly at the threshold after 4 cycles. -/
theorem witness_AccountAndScanline :
    (high.setCyc 451).cyc + 4 < defaultConfig.cyclesPerScanline ∧
    defaultConfig.cyclesPerScanline ≤ (high.setCyc 452).cyc + 4 := by decide

theorem witness_ExactSumAdvancesOnce : 0 < defaultConfig.cyclesPerScanline ∧ State.reset.cyc = 0 ∧
    (∀ k, k < [200, 232, 24].length → ([200, 232, 24].take k).sum < defaultConfig.cyclesPerScanline) ∧
    [200, 232, 24].sum = defaultConfig.cyclesPerScanline := by decide

/-- Two configurations with one scanline address, and a step that succeeds. -/
theorem witness_TimingIndependence :
    ({ defaultConfig with cyclesPerScanline := 4, cost := fun _ => .flat 1 } : Config).scanlineAddr =
      defaultConfig.scanlineAddr ∧
    ∃ t, stepWith defaultConfig (startAt 0x0100#16 [0x04#8]) = .next t := ⟨rfl, _, rfl⟩

theorem witness_ResetInvariant : 0 < defaultConfig.cyclesPerScanline := by decide

/-- A state with bytes listed that meets the invariant, and its step. -/
theorem witness_StepKeepsInvariant : Inv defaultConfig (startAt 0xFFFF#16 [0x34#8, 0x01#8]) ∧
    ∃ t, stepWith defaultConfig (startAt 0xFFFF#16 [0x34#8, 0x01#8]) = .next t :=
  ⟨⟨by decide, by decide⟩, _, rfl⟩

end Sys2Proof.Tests
end

section
/-! Proofs of the statements on registers, views and conditions (10_state.md). -/

namespace Sys2Proof.Proofs

open Sys2Proof.Machine

/-! ## The auto-modifying views (R16, R17) -/

theorem toNat_hl (s : State) : s.hl.toNat = 256 * s.h.toNat + s.l.toNat := by
  have hpair : s.hl = mkWord s.h s.l := rfl
  rw [hpair, toNat_mkWord, Nat.mul_comm]

/-- The cells H and L after a write of HL, put together again, are the word written. -/
theorem toNat_h_l_setHL (s : State) (v : Word) : 256 * (s.setHL v).h.toNat + (s.setHL v).l.toNat = v.toNat := by
  rw [← toNat_hl, hl_setHL]

/-- The second of two writes of HL decides: why the write through HLI or HLD has no effect beyond the moved HL. -/
@[simp] theorem setHL_setHL (s : State) (v w : Word) : (s.setHL v).setHL w = s.setHL w := rfl

theorem keepsCells_setHL (s : State) (v : Word) : KeepsCells [.h, .l] s (s.setHL v) := by
  intro x hx
  have hne : x ≠ .h ∧ x ≠ .l := by simpa using hx
  simp [hne]

/-- The frame of a write of HL. -/
theorem setHL_frame (s : State) (v : Word) :
    KeepsCells [.h, .l] s (s.setHL v) ∧ (s.setHL v).mem = s.mem ∧ KeepsSPAndCyc s (s.setHL v) ∧
      (s.setHL v).pc = s.pc ∧ (s.setHL v).flags = s.flags :=
  ⟨keepsCells_setHL s v, mem_setHL s v, ⟨sp_setHL s v, cyc_setHL s v⟩, pc_setHL s v, flags_setHL s v⟩

theorem toNat_add_ofNat16 (v : Word) (d : Nat) : (v + BitVec.ofNat 16 d).toNat = (v.toNat + d) % 65536 := by
  rw [BitVec.toNat_add, BitVec.toNat_ofNat, Nat.add_mod_mod]

/-- A read or a write through HLI or HLD is one write of HL, of the old value or the operand moved by the view's step. -/
theorem autoView_eq_setHL {p : PairView} {d : Nat} (hp : (p, d) ∈ [(PairView.hli, 1), (.hld, 65535)])
    (s : State) (w : Word) :
    readPair p s = (s.hl, s.setHL (s.hl + BitVec.ofNat 16 d)) ∧
      writePair p w s = s.setHL (w + BitVec.ofNat 16 d) := by
  have hcase : (p = .hli ∧ d = 1) ∨ (p = .hld ∧ d = 65535) := by simpa using hp
  obtain ⟨rfl, rfl⟩ | ⟨rfl, rfl⟩ := hcase
  all_goals exact ⟨rfl, setHL_setHL s w _⟩

/-- Settles O3: both directions of both views are one write of HL, so the value is that of `toNat_h_l_setHL` and the frame
that of `setHL_frame`. -/
theorem autoModifyingViews : Obligations.AutoModifyingViews := by
  intro s w p d hp
  obtain ⟨hread, hwrite⟩ := autoView_eq_setHL hp s w
  rw [hread, hwrite]
  refine ⟨⟨toNat_hl s, ?_, ?_⟩, ?_⟩
  · rw [toNat_h_l_setHL, toNat_add_ofNat16, toNat_hl]
  · rw [toNat_h_l_setHL, toNat_add_ofNat16]
  · intro t ht
    obtain rfl | rfl : t = s.setHL (s.hl + BitVec.ofNat 16 d) ∨ t = s.setHL (w + BitVec.ofNat 16 d) := by simpa using ht
    all_goals exact setHL_frame s _

/-! ## The branch conditions (R20) -/

theorem condHolds_nz (fl : Flags) : condHolds .nz fl = true ↔ fl.z = false := by simp [condHolds]

theorem condHolds_z (fl : Flags) : condHolds .z fl = true ↔ fl.z = true := Iff.rfl

theorem condHolds_nc (fl : Flags) : condHolds .nc fl = true ↔ fl.c = false := by simp [condHolds]

theorem condHolds_c (fl : Flags) : condHolds .c fl = true ↔ fl.c = true := Iff.rfl

/-- No condition reads N or H. -/
theorem condHolds_update_n_h (cc : Cond) (fl : Flags) (n h : Bool) :
    condHolds cc { fl with n := n, h := h } = condHolds cc fl := by
  cases cc <;> rfl

/-- Settles O4: each index denotes one condition, which reads the one flag its lemma names. -/
theorem conditionTable : Obligations.ConditionTable := fun fl =>
  ⟨condHolds_nz fl, condHolds_z fl, condHolds_nc fl, condHolds_c fl, fun cc n h => condHolds_update_n_h cc fl n h⟩

end Sys2Proof.Proofs
end

section
/-! Proofs of the statements on memory (20_memory.md). -/

namespace Sys2Proof.Proofs

open Sys2Proof.Machine

/-! ## Byte accesses (R42, R43) -/

theorem byteAt_setByte_self (s : State) (p : Word) (v : Byte) : (s.setByte p v).byteAt p = v := by
  rw [byteAt_setByte, if_pos rfl]

theorem keepsBytes_setByte (s : State) (p : Word) (v : Byte) : KeepsBytes [p] s (s.setByte p v) := by
  intro a ha
  rw [byteAt_setByte, if_neg (List.ne_of_not_mem_cons ha)]

/-- What a byte store leaves unchanged outside memory. -/
theorem setByte_frame (s : State) (p : Word) (v : Byte) :
    KeepsCells [] s (s.setByte p v) ∧ KeepsSPAndCyc s (s.setByte p v) ∧ (s.setByte p v).pc = s.pc ∧
      (s.setByte p v).flags = s.flags :=
  ⟨fun x _ => cell_setByte s p v x, ⟨sp_setByte s p v, cyc_setByte s p v⟩, pc_setByte s p v, flags_setByte s p v⟩

/-- Settles O5: the read-back, the memory frame and the frame outside memory, each by its lemma. -/
theorem byteAccess : Obligations.ByteAccess := fun s addr v =>
  ⟨byteAt_setByte_self s addr v, keepsBytes_setByte s addr v, setByte_frame s addr v⟩

/-! ## 16-bit accesses (R44) -/

/-- Frames compose: two changes one after the other touch the bytes of the first and the bytes of the second. -/
theorem keepsBytes_append {as bs : List Word} {s t u : State} (hst : KeepsBytes as s t) (htu : KeepsBytes bs t u) :
    KeepsBytes (as ++ bs) s u := by
  intro a ha
  obtain ⟨has, hbs⟩ : a ∉ as ∧ a ∉ bs := by simpa using ha
  rw [htu a hbs, hst a has]

/-- A little-endian read (R44): the byte at the lower address is the less significant one. -/
theorem toNat_of_wordAt {s : State} {p w : Word} (h : s.wordAt p = .next w) :
    w.toNat = 256 * (s.byteAt (p + 1#16)).toNat + (s.byteAt p).toNat := by
  obtain ⟨-, rfl⟩ := wordAt_eq_next.mp h
  rw [toNat_mkWord, Nat.mul_comm]

/-- A 16-bit store that succeeds is a store of the low byte at the address, then of the high byte at the next one. -/
theorem setWord_eq_next {s t : State} {p v : Word} :
    s.setWord p v = .next t ↔
      p ≠ 0xFFFF#16 ∧ t = (s.setByte p (loByte v)).setByte (p + 1#16) (hiByte v) := by
  by_cases h : p = 0xFFFF#16
  · subst h; simp [setWord_top]
  · simp [setWord_of_ne v h, h, eq_comm]

/-- The low byte outlives the second store, whose address is another one. -/
theorem byteAt_of_setWord {s t : State} {p v : Word} (h : s.setWord p v = .next t) : t.byteAt p = loByte v := by
  obtain ⟨-, rfl⟩ := setWord_eq_next.mp h
  rw [byteAt_setByte, if_neg (word_ne_succ p).symm, byteAt_setByte_self]

theorem byteAt_succ_of_setWord {s t : State} {p v : Word} (h : s.setWord p v = .next t) :
    t.byteAt (p + 1#16) = hiByte v := by
  obtain ⟨-, rfl⟩ := setWord_eq_next.mp h
  exact byteAt_setByte_self _ _ _

theorem keepsBytes_of_setWord {s t : State} {p v : Word} (h : s.setWord p v = .next t) :
    KeepsBytes [p, p + 1#16] s t := by
  obtain ⟨-, rfl⟩ := setWord_eq_next.mp h
  exact keepsBytes_append (keepsBytes_setByte s p _) (keepsBytes_setByte _ _ _)

/-- What a 16-bit store leaves unchanged outside memory. -/
theorem frame_of_setWord {s t : State} {p v : Word} (h : s.setWord p v = .next t) :
    KeepsCells [] s t ∧ KeepsSPAndCyc s t ∧ t.pc = s.pc ∧ t.flags = s.flags := by
  obtain ⟨-, rfl⟩ := setWord_eq_next.mp h
  exact ⟨fun x _ => by rw [cell_setByte, cell_setByte], ⟨rfl, rfl⟩, rfl, rfl⟩

theorem ne_top_of_toNat_lt {p : Word} (h : p.toNat < 0xFFFF) : p ≠ 0xFFFF#16 := by
  rintro rfl
  exact absurd h (by decide)

/-- Settles O6: below 0xFFFF both accesses complete; the value read, the two bytes stored and the frame are those of the
lemmas on a completed access. -/
theorem wordAccessLittleEndian : Obligations.WordAccessLittleEndian := by
  intro s addr v hlt
  have hne : addr ≠ 0xFFFF#16 := ne_top_of_toNat_lt hlt
  have hread := wordAt_of_ne (s := s) hne
  have hstore := setWord_of_ne (s := s) v hne
  refine ⟨⟨_, hread, toNat_of_wordAt hread⟩, _, hstore, ?_, ?_, keepsBytes_of_setWord hstore, frame_of_setWord hstore⟩
  · rw [byteAt_of_setWord hstore, toNat_loByte]
  · rw [byteAt_succ_of_setWord hstore, toNat_hiByte]

end Sys2Proof.Proofs
end

section
/-! Proofs of the statements on the step (40_step.md): the bit `taken`. -/

namespace Sys2Proof.Proofs

open Sys2Proof.Machine

section
variable {i : Instr} {cc : Cond} {s t : State}

/-! ## `taken` by family (R93) -/

theorem takenBy_of_condOf_eq_some (h : condOf i = some cc) (s : State) : takenBy i s = condHolds cc s.flags := by
  simp [takenBy, h]

theorem takenBy_of_condOf_eq_none (h : condOf i = none) (s : State) : takenBy i s = false := by
  simp [takenBy, h]

/-- An instruction has the condition `cc` exactly when it is the member for `cc` of one of the four families. -/
theorem condOf_eq_some_iff : condOf i = some cc ↔ i ∈ [jrccInstr cc, jpccInstr cc, callccInstr cc, retccInstr cc] := by
  constructor
  · intro h
    simpa using conditional_of_condOf i cc h
  · intro h
    obtain rfl | rfl | rfl | rfl : i = jrccInstr cc ∨ i = jpccInstr cc ∨ i = callccInstr cc ∨ i = retccInstr cc := by
      simpa using h
    all_goals simp [condOf]

/-! ## The conditional families keep the flags (R177) -/

theorem snd_of_fetch16 {x : Word × State} (h : fetch16 s = .next x) : x.2 = s.advance 2 := by
  simp only [fetch16, andThen_eq_next, Host.Outcome.next.injEq] at h
  obtain ⟨v, -, rfl⟩ := h
  rfl

theorem snd_of_pop16 {x : Word × State} (h : pop16 s = .next x) : x.2 = s.setSP (s.sp + 2#16) := by
  simp only [pop16, andThen_eq_next, Host.Outcome.next.injEq] at h
  obtain ⟨v, -, rfl⟩ := h
  rfl

theorem flags_of_push16 {v : Word} (h : push16 v s = .next t) : t.flags = s.flags := by
  rw [push16] at h
  obtain ⟨-, -, -, hflags⟩ := frame_of_setWord h
  rw [hflags, flags_setSP]

theorem flags_of_jumpAbsolute (h : jumpAbsolute s = .next t) : t.flags = s.flags := by
  simp only [jumpAbsolute, andThen_eq_next, Host.Outcome.next.injEq] at h
  obtain ⟨x, hfetch, rfl⟩ := h
  rw [flags_setPC, snd_of_fetch16 hfetch, flags_advance]

theorem flags_of_jumpRelative (h : jumpRelative s = .next t) : t.flags = s.flags := by
  injection h with h
  rw [← h]
  rfl

theorem flags_of_callAbsolute (h : callAbsolute s = .next t) : t.flags = s.flags := by
  simp only [callAbsolute, andThen_eq_next, Host.Outcome.next.injEq] at h
  obtain ⟨u, hpush, target, -, rfl⟩ := h
  rw [flags_setPC, flags_of_push16 hpush]

theorem flags_of_popPC (h : popPC s = .next t) : t.flags = s.flags := by
  simp only [popPC, andThen_eq_next, Host.Outcome.next.injEq] at h
  obtain ⟨x, hpop, rfl⟩ := h
  rw [flags_setPC, snd_of_pop16 hpop, flags_setSP]

/-- Not taken, a conditional instruction moves `pc` alone; taken, it keeps the flags as its effect does. -/
theorem flags_of_ifTaken {effect : State → Result} {n : Nat}
    (heffect : effect s = .next t → t.flags = s.flags) (h : ifTaken cc effect n s = .next t) :
    t.flags = s.flags := by
  obtain ⟨-, htaken⟩ | ⟨-, rfl⟩ := ifTaken_eq_next h
  · exact heffect htaken
  · exact flags_advance s n

theorem flags_of_exec_conditional (hi : condOf i = some cc) (h : exec i s = .next t) : t.flags = s.flags := by
  rw [exec_eq_runKind] at h
  obtain rfl | rfl | rfl | rfl := conditional_of_condOf i cc hi
  · rw [kind_jrccInstr] at h
    exact flags_of_ifTaken flags_of_jumpRelative h
  · rw [kind_jpccInstr] at h
    exact flags_of_ifTaken flags_of_jumpAbsolute h
  · rw [kind_callccInstr] at h
    exact flags_of_ifTaken flags_of_callAbsolute h
  · rw [kind_retccInstr] at h
    exact flags_of_ifTaken flags_of_popPC h

/-- `taken` may be evaluated before or after the execution: it reads the flags only for the families that keep them. -/
theorem takenBy_of_exec (h : exec i s = .next t) : takenBy i t = takenBy i s := by
  cases hi : condOf i with
  | none => rw [takenBy_of_condOf_eq_none hi, takenBy_of_condOf_eq_none hi]
  | some cc =>
    rw [takenBy_of_condOf_eq_some hi, takenBy_of_condOf_eq_some hi, flags_of_exec_conditional hi h]

end

/-- Settles O15: the first two clauses are `takenBy` by the condition an instruction has, the third that the conditional
families keep the flags. -/
theorem takenBit : Obligations.TakenBit := by
  refine ⟨fun cc i s hi => takenBy_of_condOf_eq_some (condOf_eq_some_iff.mpr hi) s, fun i s hi => ?_,
    fun i s t h => takenBy_of_exec h⟩
  cases hc : condOf i with
  | none => exact takenBy_of_condOf_eq_none hc s
  | some cc => exact absurd (condOf_eq_some_iff.mp hc) (hi cc)

end Sys2Proof.Proofs
end

section
/-! Proofs of the statements on the step (40_step.md): who writes and who reads the cycle counter. -/

namespace Sys2Proof.Proofs

open Sys2Proof.Machine

/-! ## An assignment of the cycle counter commutes with every state operation (10_state.md R25)

Each lemma moves `setCyc` outward, past a write or out of a read. -/

section
variable (s : State) (m : Nat)

@[simp] theorem setCyc_self : s.setCyc s.cyc = s := rfl

@[simp] theorem setCell_setCyc (x : Cell) (v : Byte) : (s.setCyc m).setCell x v = (s.setCell x v).setCyc m := by
  cases x <;> rfl

@[simp] theorem setSP_setCyc (v : Word) : (s.setCyc m).setSP v = (s.setSP v).setCyc m := rfl

@[simp] theorem setPC_setCyc (v : Word) : (s.setCyc m).setPC v = (s.setPC v).setCyc m := rfl

@[simp] theorem setFlags_setCyc (v : Flags) : (s.setCyc m).setFlags v = (s.setFlags v).setCyc m := rfl

@[simp] theorem advance_setCyc (n : Nat) : (s.setCyc m).advance n = (s.advance n).setCyc m := rfl

@[simp] theorem setByte_setCyc (p : Word) (v : Byte) : (s.setCyc m).setByte p v = (s.setByte p v).setCyc m := rfl

@[simp] theorem setPair_setCyc (hi lo : Cell) (v : Word) :
    (s.setCyc m).setPair hi lo v = (s.setPair hi lo v).setCyc m := by
  simp [State.setPair]

@[simp] theorem setHL_setCyc (v : Word) : (s.setCyc m).setHL v = (s.setHL v).setCyc m := setPair_setCyc s m .h .l v

@[simp] theorem readR8_setCyc (z : R8) : readR8 z (s.setCyc m) = readR8 z s := by cases z <;> rfl

@[simp] theorem writeR8_setCyc (z : R8) (v : Byte) : writeR8 z v (s.setCyc m) = (writeR8 z v s).setCyc m := by
  cases z <;> rfl

@[simp] theorem readPair_setCyc (p : PairView) :
    readPair p (s.setCyc m) = ((readPair p s).1, (readPair p s).2.setCyc m) := by
  cases p <;> rfl

@[simp] theorem writePair_setCyc (p : PairView) (v : Word) :
    writePair p v (s.setCyc m) = (writePair p v s).setCyc m := by
  cases p <;> simp [writePair]

@[simp] theorem readR16_setCyc (r : R16) : readR16 r (s.setCyc m) = readR16 r s := by cases r <;> rfl

@[simp] theorem writeR16_setCyc (r : R16) (v : Word) : writeR16 r v (s.setCyc m) = (writeR16 r v s).setCyc m := by
  cases r <;> rfl

@[simp] theorem readR16S_setCyc (r : R16S) : readR16S r (s.setCyc m) = readR16S r s := by cases r <;> rfl

@[simp] theorem writeR16S_setCyc (r : R16S) (v : Word) : writeR16S r v (s.setCyc m) = (writeR16S r v s).setCyc m :=
  writePair_setCyc s m (stackView r) v

@[simp] theorem aluApply_setCyc (f : AluOp) (v : Byte) : aluApply f v (s.setCyc m) = (aluApply f v s).setCyc m := by
  cases f <;> rfl

@[simp] theorem fetch8_setCyc : fetch8 (s.setCyc m) = ((fetch8 s).1, (fetch8 s).2.setCyc m) := rfl

@[simp] theorem wordAt_setCyc (p : Word) : (s.setCyc m).wordAt p = s.wordAt p := rfl

theorem andThen_assoc {α β γ : Type} (x : Host.Outcome α Fault Refusal) (k : α → Host.Outcome β Fault Refusal)
    (l : β → Host.Outcome γ Fault Refusal) : andThen (andThen x k) l = andThen x fun v => andThen (k v) l := by
  cases x <;> rfl

@[simp] theorem fetch16_setCyc : fetch16 (s.setCyc m) = andThen (fetch16 s) fun x => .next (x.1, x.2.setCyc m) := by
  simp [fetch16, andThen_assoc]

@[simp] theorem pop16_setCyc : pop16 (s.setCyc m) = andThen (pop16 s) fun x => .next (x.1, x.2.setCyc m) := by
  simp [pop16, andThen_assoc]

@[simp] theorem setWord_setCyc (p v : Word) :
    (s.setCyc m).setWord p v = andThen (s.setWord p v) fun t => .next (t.setCyc m) := by
  by_cases hp : p = 0xFFFF#16
  · subst hp
    rfl
  · simp [setWord_of_ne v hp]

@[simp] theorem push16_setCyc (v : Word) :
    push16 v (s.setCyc m) = andThen (push16 v s) fun t => .next (t.setCyc m) := by
  simp [push16]

end

/-! ## Operations that ignore the cycle counter -/

/-- `f` answers the same whatever the counter holds, and leaves in it what it held. -/
def IgnoresCyc (f : State → Result) : Prop :=
  ∀ (s : State) (m : Nat), f (s.setCyc m) = andThen (f s) fun t => .next (t.setCyc m)

/-- The counter is unchanged: assigning it the value it has commutes with `f`. -/
theorem IgnoresCyc.cyc_eq {f : State → Result} (hf : IgnoresCyc f) {s t : State} (h : f s = .next t) :
    t.cyc = s.cyc := by
  have hself := hf s s.cyc
  rw [setCyc_self, h, andThen_next] at hself
  injection hself with hself
  rw [hself, cyc_setCyc]

theorem IgnoresCyc.next {f : State → Result} (hf : IgnoresCyc f) {s t : State} (h : f s = .next t) (m : Nat) :
    f (s.setCyc m) = .next (t.setCyc m) := by
  rw [hf, h, andThen_next]

theorem IgnoresCyc.fault {f : State → Result} (hf : IgnoresCyc f) {s : State} {r : Fault} (h : f s = .fault r)
    (m : Nat) : f (s.setCyc m) = .fault r := by
  rw [hf, h, andThen_fault]

theorem ignoresCyc_jumpAbsolute : IgnoresCyc jumpAbsolute := fun s m => by simp [jumpAbsolute, andThen_assoc]

theorem ignoresCyc_jumpRelative : IgnoresCyc jumpRelative := fun _ _ => rfl

theorem ignoresCyc_callAbsolute : IgnoresCyc callAbsolute := fun s m => by simp [callAbsolute, andThen_assoc]

theorem ignoresCyc_popPC : IgnoresCyc popPC := fun s m => by simp [popPC, andThen_assoc]

/-- The condition reads the flags alone. -/
theorem ignoresCyc_ifTaken (cc : Cond) {effect : State → Result} (heffect : IgnoresCyc effect) (n : Nat) :
    IgnoresCyc (ifTaken cc effect n) := by
  intro s m
  cases hc : condHolds cc s.flags with
  | true => rw [ifTaken_of_true effect n hc, ifTaken_of_true (s := s.setCyc m) effect n hc, heffect]
  | false => rw [ifTaken_of_false effect n hc, ifTaken_of_false (s := s.setCyc m) effect n hc]; rfl

theorem ignoresCyc_runExt (x : ExtOp) : IgnoresCyc (runExt x) := by
  intro s m
  cases x with
  | rot o z => simp [runExt, rotateOperand]
  | bit b z => simp [runExt, testBit]
  | res b z => simp [runExt, resetBit]
  | set b z => simp [runExt, setBit]

/-- No decoded form's operation reads or writes the counter. -/
theorem ignoresCyc_runKind (k : Kind) : IgnoresCyc (runKind k) := by
  intro s m
  cases k with
  | nop => rfl
  | halt => rfl
  | ld8 dst src => simp [runKind, loadOperand]
  | ldi8 dst => simp [runKind, loadImmediate]
  | sta v => simp [runKind, storeA]
  | lda v => simp [runKind, loadA]
  | alu f z => simp [runKind, aluOperand]
  | aluImm f => simp [runKind, aluImmediate]
  | inc8 dst => simp [runKind, increment8]
  | dec8 dst => simp [runKind, decrement8]
  | ld16 r => simp [runKind, load16, andThen_assoc]
  | inc16 r => simp [runKind, increment16]
  | dec16 r => simp [runKind, decrement16]
  | addHL r => simp [runKind, addHL]
  | push r => simp [runKind, pushPair]
  | pop r => simp [runKind, popPair, andThen_assoc]
  | jp => exact ignoresCyc_jumpAbsolute s m
  | jpcc cc => exact ignoresCyc_ifTaken cc ignoresCyc_jumpAbsolute 2 s m
  | jr => exact ignoresCyc_jumpRelative s m
  | jrcc cc => exact ignoresCyc_ifTaken cc ignoresCyc_jumpRelative 1 s m
  | call => exact ignoresCyc_callAbsolute s m
  | callcc cc => exact ignoresCyc_ifTaken cc ignoresCyc_callAbsolute 2 s m
  | ret => exact ignoresCyc_popPC s m
  | retcc cc => exact ignoresCyc_ifTaken cc ignoresCyc_popPC 0 s m
  | reti => exact ignoresCyc_popPC s m
  | rst x => simp [runKind, restart, andThen_assoc]
  | escape => exact ignoresCyc_runExt _ (fetch8 s).2 m
  | ext x => exact ignoresCyc_runExt x s m
  | unimpl mnemonic op format => rfl
  | unsupported op => rfl

theorem ignoresCyc_exec (i : Instr) : IgnoresCyc (exec i) := fun s m => by
  rw [exec_eq_runKind, exec_eq_runKind, ignoresCyc_runKind]

/-- Settles O16: every execution ignores the counter, and the scheduler's frame is that of the lemmas on `account`. -/
theorem stepDataFlow : Obligations.StepDataFlow := by
  refine ⟨fun i s t h => ⟨(ignoresCyc_exec i).cyc_eq h, (ignoresCyc_exec i).next h⟩,
    fun i s r m h => (ignoresCyc_exec i).fault h m, fun cfg n s => ⟨?cells, ?bytes, ?registers⟩⟩
  case cells => exact fun x _ => cell_account cfg n s x
  case bytes => exact fun a ha => byteAt_account cfg n s (List.ne_of_not_mem_cons ha)
  case registers => exact ⟨sp_account cfg n s, pc_account cfg n s, flags_account cfg n s⟩

end Sys2Proof.Proofs
end

section
/-! Proofs of the statements on the encoding (30_encoding.md): the decoder and the encoder undo each other. -/

namespace Sys2Proof.Proofs

open Sys2Proof.Machine

/-! ## Fields and indices (R63 to R67, R73) -/

/-- The three fields of a byte written out as a concatenation. -/
theorem fields_append : ∀ (x : BitVec 2) (y z : BitVec 3),
    fieldX (x ++ y ++ z) = x ∧ fieldY (x ++ y ++ z) = y ∧ fieldZ (x ++ y ++ z) = z := by decide

@[simp] theorem r8_ofIndex_index (z : R8) : R8.ofIndex z.index = z := by cases z <;> rfl

@[simp] theorem rotOp_ofIndex_index (o : RotOp) : RotOp.ofIndex o.index = o := by cases o <;> rfl

/-! ## The extended table (R72, R73) -/

theorem extFields_append (x : BitVec 2) (y : BitVec 3) (z : R8) :
    extFields (x ++ y ++ z.index) = pick4 x (.rot (RotOp.ofIndex y) z) (.bit y z) (.res y z) (.set y z) := by
  obtain ⟨hx, hy, hz⟩ := fields_append x y z.index
  simp [extFields, hx, hy, hz]

/-- The decoder's fields of the byte that encodes an extended operation. -/
theorem extFields_encode (x : ExtOp) : extFields x.encode = x := by
  cases x with
  | rot o z => rw [ExtOp.encode, extFields_append, rotOp_ofIndex_index]; rfl
  | bit b z => exact extFields_append 0b01#2 b z
  | res b z => exact extFields_append 0b10#2 b z
  | set b z => exact extFields_append 0b11#2 b z

theorem encode_extFields : ∀ e : Byte, (extFields e).encode = e := by decide

theorem toInstr_of_kind {i : Instr} {x : ExtOp} (h : i.kind = .ext x) : x.toInstr = i := by
  cases i <;> cases h <;> rfl

theorem encode_of_ext {i : Instr} {x : ExtOp} (h : i.kind = .ext x) : encode i = [escapeByte, x.encode] := by
  simp [encode, h]

theorem encode_decodeExtended (e : Byte) : encode (decodeExtended e) = [escapeByte, e] := by
  rw [decodeExtended, encode_of_ext (kind_toInstr _), encode_extFields]

theorem decodeExtended_encode {i : Instr} {x : ExtOp} (h : i.kind = .ext x) : decodeExtended x.encode = i := by
  rw [decodeExtended, extFields_encode, toInstr_of_kind h]

/-! ## The primary table (R70, R71) -/

theorem encode_of_not_ext {i : Instr} (h : ∀ x, i.kind ≠ .ext x) : encode i = [i.kind.opcode] := by
  unfold encode
  split
  · next x hx => exact absurd hx (h x)
  · rfl

theorem decodePrimary_opcode {i : Instr} (h : ∀ x, i.kind ≠ .ext x) : decodePrimary i.kind.opcode = i := by
  cases i <;> first | rfl | exact absurd rfl (h _)

/-- The 256 rows of the primary table: each byte is the encoding of what it decodes to. -/
theorem encode_decodePrimary : ∀ op : Byte, encode (decodePrimary op) = [op] := by decide

theorem decodePrimary_injective : Function.Injective decodePrimary := fun op op' h => by
  have henc := encode_decodePrimary op
  rw [h, encode_decodePrimary] at henc
  exact (List.singleton_inj.mp henc).symm

theorem kind_decodePrimary_ne_ext (op : Byte) (x : ExtOp) : (decodePrimary op).kind ≠ .ext x := by
  intro h
  have henc := encode_decodePrimary op
  simp [encode_of_ext h] at henc

/-- The opcode byte is a function of the decoded form. -/
theorem opcode_kind_decodePrimary (op : Byte) : (decodePrimary op).kind.opcode = op := by
  have henc := encode_decodePrimary op
  rw [encode_of_not_ext (kind_decodePrimary_ne_ext op)] at henc
  exact List.singleton_inj.mp henc

/-! ## The whole decoder -/

theorem decode_primary {op : Byte} (h : op ≠ escapeByte) (rest : List Byte) :
    decode (op :: rest) = some (decodePrimary op, rest) := by
  cases rest <;> simp [decode, h]

theorem decode_extended (e : Byte) (rest : List Byte) :
    decode (escapeByte :: e :: rest) = some (decodeExtended e, rest) := by
  simp [decode]

/-- A whole instruction is not the escape, whose byte its own is therefore not. -/
theorem opcode_ne_escapeByte {i : Instr} (h : ∀ x, i.kind ≠ .ext x) (hwf : i.wellFormed = true) :
    i.kind.opcode ≠ escapeByte := by
  intro hop
  have hi := decodePrimary_opcode h
  rw [hop] at hi
  subst hi
  exact absurd hwf (by decide)

/-- Settles O10: the bytes of an extended instruction are read by the extended table after the escape, the byte of every
other one by the primary table, since it is not the escape. -/
theorem decodeOfEncode : Obligations.DecodeOfEncode := by
  intro i rest hwf
  by_cases hext : ∃ x, i.kind = .ext x
  · obtain ⟨x, hx⟩ := hext
    rw [encode_of_ext hx]
    exact decodeExtended_encode hx ▸ decode_extended x.encode rest
  · have hx : ∀ x, i.kind ≠ .ext x := fun x h => hext ⟨x, h⟩
    rw [encode_of_not_ext hx]
    exact (decode_primary (opcode_ne_escapeByte hx hwf) rest).trans (by rw [decodePrimary_opcode hx])

/-- What the decoder can answer: one primary byte other than the escape, or the escape and one extended byte. -/
theorem decode_eq_some {bytes rest : List Byte} {i : Instr} (h : decode bytes = some (i, rest)) :
    (∃ op, op ≠ escapeByte ∧ bytes = op :: rest ∧ i = decodePrimary op) ∨
      ∃ e, bytes = escapeByte :: e :: rest ∧ i = decodeExtended e := by
  match bytes with
  | [] => simp [decode] at h
  | op :: tail =>
    by_cases hop : op = escapeByte
    · subst hop
      match tail with
      | [] => simp [decode] at h
      | e :: tail =>
        rw [decode_extended] at h
        cases h
        exact .inr ⟨e, rfl, rfl⟩
    · rw [decode_primary hop] at h
      cases h
      exact .inl ⟨op, hop, rfl, rfl⟩

/-- Settles O11: by the two ways a byte sequence can decode. -/
theorem encodeOfDecode : Obligations.EncodeOfDecode := by
  intro bytes rest i h
  obtain ⟨op, -, rfl, rfl⟩ | ⟨e, rfl, rfl⟩ := decode_eq_some h
  · rw [encode_decodePrimary]; rfl
  · rw [encode_decodeExtended]; rfl

theorem decode_eq_none_iff (bytes : List Byte) : decode bytes = none ↔ bytes = [] ∨ bytes = [escapeByte] := by
  match bytes with
  | [] => simp [decode]
  | [op] => simp [decode]
  | op :: e :: rest => by_cases hop : op = escapeByte <;> simp [decode, hop]

/-- Every extended byte has an execution (R72). -/
theorem not_hasNoExecution_decodeExtended (e : Byte) : ¬ HasNoExecution (decodeExtended e).kind := by
  rw [decodeExtended, kind_toInstr]
  exact id

/-- Settles O12: the tables by their round trips, the refusals by `decode_eq_none_iff`, and the two counts by counting. -/
theorem decoderTotality : Obligations.DecoderTotality :=
  ⟨encode_decodePrimary, encode_decodeExtended, not_hasNoExecution_decodeExtended, decode_eq_none_iff,
    by decide +kernel, by decide +kernel⟩

/-- Settles O9: the decoder run on each of the words. -/
theorem sampleWordsDecode : Obligations.SampleWordsDecode := by
  unfold Obligations.SampleWordsDecode
  and_intros <;> rfl

end Sys2Proof.Proofs
end

section
/-! What an execution answers, said once over the decoded forms: the state it leaves where it completes, and the failure
where it does not. Every statement on an instruction below goes through these lemmas. -/

namespace Sys2Proof.Proofs

open Sys2Proof.Machine

section
variable {s t : State} {k : Kind}

/-! ## The states that completed accesses leave -/

/-- The little-endian word at an address, as a completed 16-bit read answers it (20_memory.md R44). -/
def leWord (s : State) (p : Word) : Word := mkWord (s.byteAt (p + 1#16)) (s.byteAt p)

theorem toNat_leWord (s : State) (p : Word) :
    (leWord s p).toNat = 256 * (s.byteAt (p + 1#16)).toNat + (s.byteAt p).toNat := by
  rw [leWord, toNat_mkWord, Nat.mul_comm]

/-- The state a completed push leaves (43_wide16.md R156). -/
def pushed (v : Word) (s : State) : State :=
  ((s.setSP (s.sp + 65534#16)).setByte (s.sp + 65534#16) (loByte v)).setByte (s.sp + 65535#16) (hiByte v)

theorem push16_eq_pushed (v : Word) (h : s.sp ≠ 0x0001#16) : push16 v s = .next (pushed v s) := push16_of_ne v h

@[simp] theorem sp_pushed (v : Word) (s : State) : (pushed v s).sp = s.sp + 65534#16 := by
  rw [pushed, sp_setByte, sp_setByte, sp_setSP]
@[simp] theorem pc_pushed (v : Word) (s : State) : (pushed v s).pc = s.pc := by
  rw [pushed, pc_setByte, pc_setByte, pc_setSP]
@[simp] theorem flags_pushed (v : Word) (s : State) : (pushed v s).flags = s.flags := by
  rw [pushed, flags_setByte, flags_setByte, flags_setSP]
@[simp] theorem cyc_pushed (v : Word) (s : State) : (pushed v s).cyc = s.cyc := by
  rw [pushed, cyc_setByte, cyc_setByte, cyc_setSP]
@[simp] theorem cell_pushed (v : Word) (s : State) (x : Cell) : (pushed v s).cell x = s.cell x := by
  rw [pushed, cell_setByte, cell_setByte, cell_setSP]

theorem mem_pushed (v : Word) (s : State) : (pushed v s).mem =
    memWrite (memWrite s.mem (s.sp + 65534#16).toNat (loByte v)) (s.sp + 65535#16).toNat (hiByte v) := by
  rw [pushed, mem_setByte, mem_setByte, mem_setSP]

theorem byteAt_low_pushed (v : Word) (s : State) : (pushed v s).byteAt (s.sp + 65534#16) = loByte v := by
  rw [pushed, byteAt_setByte, if_neg (pushSlots_ne s.sp).symm, byteAt_setByte_self]

theorem byteAt_high_pushed (v : Word) (s : State) : (pushed v s).byteAt (s.sp + 65534#16 + 1#16) = hiByte v := by
  rw [pushed, pushSlot_succ, byteAt_setByte_self]

/-- The word at the new SP is the one pushed. -/
@[simp] theorem leWord_pushed (v : Word) (s : State) : leWord (pushed v s) (s.sp + 65534#16) = v := by
  rw [leWord, byteAt_high_pushed, byteAt_low_pushed, mkWord_hiByte_loByte]

/-- The state a completed call leaves: the target is read after the push (44_control.md R178). -/
def called (s : State) : State := (pushed (s.pc + 2#16) s).setPC (leWord (pushed (s.pc + 2#16) s) s.pc)

/-- The state a completed return leaves (44_control.md R180). -/
def returned (s : State) : State := (s.setSP (s.sp + 2#16)).setPC (leWord s s.sp)

/-! ## The state an execution leaves -/

/-- The state an extended instruction leaves (45_extended.md R202 to R213). -/
def afterExt (x : ExtOp) (s : State) : State :=
  match x with
  | .rot o z => (writeR8 z (rotResult o (readR8 z s) s.flags.c).1 s).setFlags (rotResult o (readR8 z s) s.flags.c).2
  | .bit b z => s.setFlags (bitFlags b (readR8 z s) s.flags)
  | .res b z => writeR8 z (resByte b (readR8 z s)) s
  | .set b z => writeR8 z (setByteBit b (readR8 z s)) s

/-- The state an instruction of a decoded form leaves where it completes; the state itself for a form without
execution, which never completes. -/
def afterKind (k : Kind) (s : State) : State :=
  match k with
  | .nop | .halt | .unimpl _ _ _ | .unsupported _ => s
  | .ld8 dst src => writeR8 dst (readR8 src s) s
  | .ldi8 dst => writeR8 dst (s.byteAt s.pc) (s.advance 1)
  | .sta v => (readPair (memView v) s).2.setByte (readPair (memView v) s).1 (s.cell .a)
  | .lda v => (readPair (memView v) s).2.setCell .a (s.byteAt (readPair (memView v) s).1)
  | .alu f z => aluApply f (readR8 z s) s
  | .aluImm f => aluApply f (s.byteAt s.pc) (s.advance 1)
  | .inc8 dst => (writeR8 dst (incResult (readR8 dst s) s.flags).1 s).setFlags (incResult (readR8 dst s) s.flags).2
  | .dec8 dst => (writeR8 dst (decResult (readR8 dst s) s.flags).1 s).setFlags (decResult (readR8 dst s) s.flags).2
  | .ld16 r => writeR16 r (leWord s s.pc) (s.advance 2)
  | .inc16 r => writeR16 r (readR16 r s + 1#16) s
  | .dec16 r => writeR16 r (readR16 r s + 65535#16) s
  | .addHL r => (s.setHL (addHLResult s.hl (readR16 r s) s.flags).1).setFlags (addHLResult s.hl (readR16 r s) s.flags).2
  | .push r => pushed (readR16S r s) s
  | .pop r => writeR16S r (leWord s s.sp) (s.setSP (s.sp + 2#16))
  | .jp => s.setPC (leWord s s.pc)
  | .jpcc cc => if condHolds cc s.flags then s.setPC (leWord s s.pc) else s.advance 2
  | .jr => s.setPC (s.pc + 1#16 + sext16 (s.byteAt s.pc))
  | .jrcc cc => if condHolds cc s.flags then s.setPC (s.pc + 1#16 + sext16 (s.byteAt s.pc)) else s.advance 1
  | .call => called s
  | .callcc cc => if condHolds cc s.flags then called s else s.advance 2
  | .ret | .reti => returned s
  | .retcc cc => if condHolds cc s.flags then returned s else s.advance 0
  | .rst x => (pushed s.pc s).setPC (BitVec.ofNat 16 (8 * x.toNat))
  | .escape => afterExt (extFields (s.byteAt s.pc)) (s.advance 1)
  | .ext x => afterExt x s

/-! ## Where an execution completes -/

theorem runExt_eq (x : ExtOp) (s : State) : runExt x s = .next (afterExt x s) := by
  cases x <;> rfl

theorem callAbsolute_of_ne (hsp : s.sp ≠ 0x0001#16) (hpc : s.pc ≠ 0xFFFF#16) : callAbsolute s = .next (called s) :=
  callAbsolute_of_push hpc (push16_eq_pushed _ hsp)

/-- A conditional instruction completes if its effect does where the condition holds. -/
theorem ifTaken_completes {cc : Cond} {effect : State → Result} (n : Nat)
    (h : condHolds cc s.flags = true → effect s = .next t) :
    ifTaken cc effect n s = .next (if condHolds cc s.flags then t else s.advance n) := by
  by_cases hc : condHolds cc s.flags = true
  · rw [ifTaken_of_true effect n hc, if_pos hc, h hc]
  · rw [ifTaken_of_false effect n (by simpa using hc), if_neg hc]

theorem runKind_completes (hx : ¬ HasNoExecution k) (hw : ¬ WordAccessFails k s) :
    runKind k s = .next (afterKind k s) := by
  cases k with
  | unimpl m op f => exact absurd trivial hx
  | unsupported op => exact absurd trivial hx
  | ld16 r => exact load16_of_ne r hw
  | push r => exact pushPair_of_ne r hw
  | pop r => exact popPair_of_ne r hw
  | jp => exact jumpAbsolute_of_ne hw
  | jpcc cc => exact ifTaken_completes 2 fun hc => jumpAbsolute_of_ne fun hpc => hw ⟨hc, hpc⟩
  | jrcc cc => exact ifTaken_completes 1 fun _ => rfl
  | call => exact callAbsolute_of_ne (fun hsp => hw (.inl hsp)) fun hpc => hw (.inr hpc)
  | callcc cc =>
    exact ifTaken_completes 2 fun hc =>
      callAbsolute_of_ne (fun hsp => hw ⟨hc, .inl hsp⟩) fun hpc => hw ⟨hc, .inr hpc⟩
  | ret => exact popPC_of_ne hw
  | reti => exact popPC_of_ne hw
  | retcc cc => exact ifTaken_completes 0 fun hc => popPC_of_ne fun hsp => hw ⟨hc, hsp⟩
  | rst x => exact restart_of_push x (push16_eq_pushed _ hw)
  | escape => exact runExt_eq _ _
  | ext x => exact runExt_eq _ _
  | nop | halt | ld8 | ldi8 | sta | lda | alu | aluImm | inc8 | dec8 | inc16 | dec16 | addHL | jr => rfl

/-! ## Where it fails -/

theorem load16_top (r : R16) (h : s.pc = 0xFFFF#16) : load16 r s = .fault (.addressOutOfRange 0xFFFF#16) := by
  rw [load16, fetch16_top h, andThen_fault]

theorem jumpAbsolute_top (h : s.pc = 0xFFFF#16) : jumpAbsolute s = .fault (.addressOutOfRange 0xFFFF#16) := by
  rw [jumpAbsolute, fetch16_top h, andThen_fault]

theorem popPair_top (r : R16S) (h : s.sp = 0xFFFF#16) : popPair r s = .fault (.addressOutOfRange 0xFFFF#16) := by
  rw [popPair, pop16_top h, andThen_fault]

theorem popPC_top (h : s.sp = 0xFFFF#16) : popPC s = .fault (.addressOutOfRange 0xFFFF#16) := by
  rw [popPC, pop16_top h, andThen_fault]

theorem restart_top (x : BitVec 3) (h : s.sp = 0x0001#16) : restart x s = .fault (.addressOutOfRange 0xFFFF#16) := by
  rw [restart, push16_top _ h, andThen_fault]

/-- A call fails in its push or, after it, in reading its target. -/
theorem callAbsolute_top (h : s.sp = 0x0001#16 ∨ s.pc = 0xFFFF#16) :
    callAbsolute s = .fault (.addressOutOfRange 0xFFFF#16) := by
  by_cases hsp : s.sp = 0x0001#16
  · rw [callAbsolute, push16_top _ hsp, andThen_fault]
  · have hpc : s.pc = 0xFFFF#16 := h.resolve_left hsp
    rw [callAbsolute, push16_eq_pushed _ hsp, andThen_next, pc_pushed, hpc, wordAt_top, andThen_fault]

theorem runKind_of_wordAccessFails (h : WordAccessFails k s) :
    runKind k s = .fault (.addressOutOfRange 0xFFFF#16) := by
  cases k with
  | ld16 r => exact load16_top r h
  | jp => exact jumpAbsolute_top h
  | jpcc cc => exact (ifTaken_of_true _ 2 h.1).trans (jumpAbsolute_top h.2)
  | call => exact callAbsolute_top h
  | callcc cc => exact (ifTaken_of_true _ 2 h.1).trans (callAbsolute_top h.2)
  | push r => rw [runKind, pushPair, push16_top _ h]
  | rst x => exact restart_top x h
  | pop r => exact popPair_top r h
  | ret => exact popPC_top h
  | reti => exact popPC_top h
  | retcc cc => exact (ifTaken_of_true _ 0 h.1).trans (popPC_top h.2)
  | nop | halt | ld8 | ldi8 | sta | lda | alu | aluImm | inc8 | dec8 | inc16 | dec16 | addHL | jr | jrcc | escape
  | ext | unimpl | unsupported => exact h.elim

/-- The three ways a decoded form fails (60_exceptions.md R270 to R272). -/
theorem runKind_eq_fault {r : Fault} :
    runKind k s = .fault r ↔ (∃ m op f, k = .unimpl m op f ∧ r = .unimplementedInstruction m) ∨
      (∃ op, k = .unsupported op ∧ r = .unsupportedOpcode op) ∨
      (WordAccessFails k s ∧ r = .addressOutOfRange 0xFFFF#16) := by
  constructor
  · intro h
    by_cases hw : WordAccessFails k s
    · rw [runKind_of_wordAccessFails hw] at h
      injection h with h
      exact .inr (.inr ⟨hw, h.symm⟩)
    · by_cases hx : HasNoExecution k
      · cases k with
        | unimpl m op f => injection h with h; exact .inl ⟨m, op, f, rfl, h.symm⟩
        | unsupported op => injection h with h; exact .inr (.inl ⟨op, rfl, h.symm⟩)
        | _ => exact hx.elim
      · rw [runKind_completes hx hw] at h
        cases h
  · rintro (⟨m, op, f, rfl, rfl⟩ | ⟨op, rfl, rfl⟩ | ⟨hw, rfl⟩)
    · rfl
    · rfl
    · exact runKind_of_wordAccessFails hw

theorem runKind_fails_of_hasNoExecution (h : HasNoExecution k) (s : State) : ∃ r, runKind k s = .fault r := by
  cases k with
  | unimpl m op f => exact ⟨_, rfl⟩
  | unsupported op => exact ⟨_, rfl⟩
  | _ => exact h.elim

/-- A decoded form that answers a state has an execution, makes no failing access, and leaves the state of
`afterKind`. -/
theorem runKind_eq_next :
    runKind k s = .next t ↔ (¬ HasNoExecution k ∧ ¬ WordAccessFails k s) ∧ t = afterKind k s := by
  constructor
  · intro h
    have hx : ¬ HasNoExecution k := fun hx => by
      obtain ⟨r, hr⟩ := runKind_fails_of_hasNoExecution hx s
      rw [hr] at h
      cases h
    have hw : ¬ WordAccessFails k s := fun hw => by
      rw [runKind_of_wordAccessFails hw] at h
      cases h
    rw [runKind_completes hx hw] at h
    injection h with h
    exact ⟨⟨hx, hw⟩, h.symm⟩
  · rintro ⟨⟨hx, hw⟩, rfl⟩
    exact runKind_completes hx hw

theorem runKind_ne_refused (r : Refusal) : runKind k s ≠ .refused r := by
  intro h
  by_cases hx : HasNoExecution k
  · obtain ⟨r', hr⟩ := runKind_fails_of_hasNoExecution hx s
    rw [hr] at h
    cases h
  · by_cases hw : WordAccessFails k s
    · rw [runKind_of_wordAccessFails hw] at h
      cases h
    · rw [runKind_completes hx hw] at h
      cases h

/-! ## The same of an instruction -/

variable {i : Instr}

/-- An instruction of form `k` that has an execution and makes no failing access completes. -/
theorem exec_completes (hk : i.kind = k) (hx : ¬ HasNoExecution k) (hw : ¬ WordAccessFails k s) :
    exec i s = .next (afterKind k s) := by
  rw [exec_eq_runKind, hk, runKind_completes hx hw]

theorem afterKind_of_exec (h : exec i s = .next t) : t = afterKind i.kind s := by
  rw [exec_eq_runKind] at h
  exact (runKind_eq_next.mp h).2

end

end Sys2Proof.Proofs
end

section
/-! Proofs of the invariants over all instructions: where memory is stored to (20_memory.md R43, R47), the canonical form
of memory and the bound of the counter. -/

namespace Sys2Proof.Proofs

open Sys2Proof.Machine

/-! ## Memories that differ by stores at listed addresses -/

/-- `m'` is `m` after byte stores at addresses of the list. -/
inductive StoresWithin (as : List Word) (m : Memory) : Memory → Prop
  | refl : StoresWithin as m m
  | store {m' : Memory} {a : Word} (ha : a ∈ as) (v : Byte) (h : StoresWithin as m m') :
      StoresWithin as m (memWrite m' a.toNat v)

theorem StoresWithin.memRead_eq {as : List Word} {m m' : Memory} (h : StoresWithin as m m') {a : Word} (ha : a ∉ as) :
    memRead m' a.toNat = memRead m a.toNat := by
  induction h with
  | refl => rfl
  | @store m' b hb v _ ih =>
    have hne : a ≠ b := fun hab => ha (hab ▸ hb)
    rw [memRead_memWrite, if_neg (fun hab => hne (BitVec.eq_of_toNat_eq hab)), ih]

theorem StoresWithin.wf {as : List Word} {m m' : Memory} (h : StoresWithin as m m') (hm : m.wf = true) :
    m'.wf = true := by
  induction h with
  | refl => exact hm
  | @store m' b hb v _ ih => exact wf_memWrite v ih b.isLt

/-! ## The stores of an execution -/

section
variable {s t : State}

theorem storesWithin_of_mem_eq (as : List Word) (h : t.mem = s.mem) : StoresWithin as s.mem t.mem := h ▸ .refl

theorem storesWithin_writeR8 (z : R8) (v : Byte) (s : State) :
    StoresWithin (destBytes z s) s.mem (writeR8 z v s).mem := by
  cases z with
  | m => exact .store (List.mem_singleton_self _) v .refl
  | b | c | d | e | h | l | a => exact storesWithin_of_mem_eq _ (mem_setCell s _ v)

theorem storesWithin_pushed (v : Word) (s : State) :
    StoresWithin [s.sp + 65534#16, s.sp + 65535#16] s.mem (pushed v s).mem := by
  rw [mem_pushed]
  exact .store (by simp) _ (.store (by simp) _ .refl)

theorem storesWithin_called (s : State) :
    StoresWithin [s.sp + 65534#16, s.sp + 65535#16] s.mem (called s).mem := by
  rw [called, mem_setPC]
  exact storesWithin_pushed _ s

/-- The addresses an extended operation stores to. -/
theorem storesWithin_afterExt (x : ExtOp) (s : State) :
    StoresWithin (storedBytes (.ext x) s) s.mem (afterExt x s).mem := by
  cases x with
  | rot o z => exact storesWithin_writeR8 z _ s
  | bit b z => exact .refl
  | res b z => exact storesWithin_writeR8 z _ s
  | set b z => exact storesWithin_writeR8 z _ s

theorem destBytes_advance (z : R8) (s : State) (n : Nat) : destBytes z (s.advance n) = destBytes z s := by
  cases z <;> simp [destBytes]

/-- The addresses the escape stores to are those of the extended instruction it reaches. -/
theorem storedBytes_escape (s : State) :
    storedBytes .escape s = storedBytes (.ext (extFields (s.byteAt s.pc))) (s.advance 1) := by
  simp only [storedBytes]
  cases extFields (s.byteAt s.pc) <;> simp [destBytes_advance]

/-- An execution changes memory by stores at the addresses of `storedBytes` alone. -/
theorem storesWithin_afterKind (k : Kind) (s : State) : StoresWithin (storedBytes k s) s.mem (afterKind k s).mem := by
  cases k with
  | ld8 dst src => exact storesWithin_writeR8 dst _ s
  | ldi8 dst => 
    simp only [storedBytes, ← destBytes_advance dst s 1]
    exact storesWithin_writeR8 dst _ (s.advance 1)
  | inc8 dst => exact storesWithin_writeR8 dst _ s
  | dec8 dst => exact storesWithin_writeR8 dst _ s
  | sta v => exact .store (List.mem_singleton_self _) _ (storesWithin_of_mem_eq _ (mem_readPair s _))
  | push r => exact storesWithin_pushed _ s
  | call => exact storesWithin_called s
  | rst x =>
    simp only [afterKind, mem_setPC]
    exact storesWithin_pushed _ s
  | callcc cc =>
    simp only [storedBytes, afterKind]
    split
    · exact storesWithin_called s
    · exact .refl
  | ext x => exact storesWithin_afterExt x s
  | escape => exact storedBytes_escape s ▸ storesWithin_afterExt _ (s.advance 1)
  | jpcc cc => exact storesWithin_of_mem_eq _ (by simp only [afterKind]; split <;> rfl)
  | jrcc cc => exact storesWithin_of_mem_eq _ (by simp only [afterKind]; split <;> rfl)
  | retcc cc => exact storesWithin_of_mem_eq _ (by simp only [afterKind]; split <;> rfl)
  | nop | halt | lda | alu | aluImm | ld16 | inc16 | dec16 | addHL | pop | jp | jr | ret | reti | unimpl | unsupported =>
    exact storesWithin_of_mem_eq _ (by simp [afterKind, returned])

/-- Settles O51: every byte outside the addresses of the stores reads as before. -/
theorem memoryFrame : Obligations.MemoryFrame := by
  intro i s t h a ha
  rw [afterKind_of_exec h]
  exact (storesWithin_afterKind i.kind s).memRead_eq ha

/-! ## The invariant -/

theorem wf_exec {i : Instr} (h : exec i s = .next t) (hm : s.mem.wf = true) : t.mem.wf = true := by
  rw [afterKind_of_exec h]
  exact (storesWithin_afterKind i.kind s).wf hm

/-- The scheduler leaves the counter below a positive threshold, wherever it was. -/
theorem cyc_account_lt {cfg : Config} (n : Nat) (hpos : 0 < cfg.cyclesPerScanline) (s : State) :
    (account cfg n s).cyc < cfg.cyclesPerScanline := by
  by_cases hlt : s.cyc + n < cfg.cyclesPerScanline
  · rw [account_of_lt hlt]
    exact hlt
  · rw [account_of_ge (not_lt.mp hlt)]
    exact hpos

/-- Settles O59: the execution keeps memory canonical since it only stores bytes, and so does the scheduler, which also
brings the counter below the threshold; that is positive, since a counter was below it. -/
theorem stepKeepsInvariant : Obligations.StepKeepsInvariant := by
  rintro cfg s t ⟨hwf, hcyc⟩ h
  obtain ⟨u, hexec, rfl⟩ := stepWith_eq_next h
  exact ⟨wf_account _ (wf_exec hexec hwf), cyc_account_lt _ (Nat.zero_lt_of_lt hcyc) u⟩

end

end Sys2Proof.Proofs
end

section
/-! Proofs of the statements on cells, plain views, failing 16-bit accesses, the memory surface and the fetch helpers
(10_state.md, 20_memory.md, 40_step.md). -/

namespace Sys2Proof.Proofs

open Sys2Proof.Machine

section
variable {s t : State}

/-! ## Cells and plain views (10_state.md R10, R15) -/

theorem keepsCells_setCell (s : State) (x : Cell) (v : Byte) : KeepsCells [x] s (s.setCell x v) := by
  intro y hy
  rw [cell_setCell, if_neg (List.ne_of_not_mem_cons hy)]

/-- Settles O1: the read-back and the frame of a cell write, each by its law. -/
theorem cellIndependence : Obligations.CellIndependence := fun s x v =>
  ⟨by rw [cell_setCell, if_pos rfl], keepsCells_setCell s x v, fun a _ => byteAt_setCell s x v a,
    ⟨sp_setCell s x v, cyc_setCell s x v⟩, pc_setCell s x v, flags_setCell s x v⟩

/-- Frames compose, as those of memory do. -/
theorem keepsCells_append {xs ys : List Cell} {u : State} (hst : KeepsCells xs s t) (htu : KeepsCells ys t u) :
    KeepsCells (xs ++ ys) s u := by
  intro x hx
  obtain ⟨hxs, hys⟩ : x ∉ xs ∧ x ∉ ys := by simpa using hx
  rw [htu x hys, hst x hxs]

theorem keepsCells_setPair (s : State) (hi lo : Cell) (v : Word) : KeepsCells [hi, lo] s (s.setPair hi lo v) :=
  keepsCells_append (keepsCells_setCell s hi _) (keepsCells_setCell _ lo _)

/-- A plain view is the pair of its two cells, which differ, in both directions. -/
theorem plainView_eq_pair {p : PairView} {hi lo : Cell}
    (hp : (p, hi, lo) ∈ [(PairView.af, Cell.a, Cell.f), (.bc, .b, .c), (.de, .d, .e), (.hl, .h, .l)])
    (s : State) (v : Word) :
    readPair p s = (s.pair hi lo, s) ∧ writePair p v s = s.setPair hi lo v ∧ hi ≠ lo := by
  simp only [List.mem_cons, Prod.mk.injEq, List.not_mem_nil, or_false] at hp
  obtain ⟨rfl, rfl, rfl⟩ | ⟨rfl, rfl, rfl⟩ | ⟨rfl, rfl, rfl⟩ | ⟨rfl, rfl, rfl⟩ := hp
  all_goals exact ⟨rfl, rfl, by decide⟩

/-- Settles O2: a plain view is the pair of its cells, read by `toNat_mkWord` and written by halves. -/
theorem plainViews : Obligations.PlainViews := by
  intro s v p hi lo hp
  obtain ⟨hread, hwrite, hne⟩ := plainView_eq_pair hp s v
  rw [hread, hwrite]
  refine ⟨⟨?_, rfl⟩, ?_, ?_, keepsCells_setPair s hi lo v, mem_setPair s hi lo v,
    ⟨sp_setPair s hi lo v, cyc_setPair s hi lo v⟩, pc_setPair s hi lo v, flags_setPair s hi lo v⟩
  · rw [State.pair, toNat_mkWord, Nat.mul_comm]
  · rw [cell_setPair, if_neg hne, if_pos rfl, toNat_hiByte]
  · rw [cell_setPair, if_pos rfl, toNat_loByte]

/-! ## Failing 16-bit accesses (20_memory.md R45) -/

theorem setWord_eq_fault {p v : Word} {r : Fault} :
    s.setWord p v = .fault r ↔ p = 0xFFFF#16 ∧ r = .addressOutOfRange 0xFFFF#16 := by
  by_cases h : p = 0xFFFF#16
  · subst h; simp [setWord_top, eq_comm]
  · simp [setWord_of_ne v h, h]

theorem fetch16_eq_fault {r : Fault} :
    fetch16 s = .fault r ↔ s.pc = 0xFFFF#16 ∧ r = .addressOutOfRange 0xFFFF#16 := by
  simp [fetch16, andThen_eq_fault, wordAt_eq_fault]

theorem push16_eq_fault {v : Word} {r : Fault} :
    push16 v s = .fault r ↔ s.sp = 0x0001#16 ∧ r = .addressOutOfRange 0xFFFF#16 := by
  rw [push16, setWord_eq_fault, pushSlot_top]

theorem pop16_eq_fault {r : Fault} :
    pop16 s = .fault r ↔ s.sp = 0xFFFF#16 ∧ r = .addressOutOfRange 0xFFFF#16 := by
  simp [pop16, andThen_eq_fault, wordAt_eq_fault]

/-- Settles O7: the two accesses, and the three operations each by the access it makes. -/
theorem wordAccessFailsAtTop : Obligations.WordAccessFailsAtTop := fun _ _ _ _ =>
  ⟨wordAt_eq_fault, setWord_eq_fault, fetch16_eq_fault, push16_eq_fault, pop16_eq_fault⟩

/-! ## The surface toward external agents (20_memory.md R55) -/

/-- A word stored is read back. -/
theorem wordAt_of_setWord {p v : Word} (h : s.setWord p v = .next t) : t.wordAt p = .next v := by
  rw [wordAt_of_ne (setWord_eq_next.mp h).1, byteAt_succ_of_setWord h, byteAt_of_setWord h, mkWord_hiByte_loByte]

/-- Settles O8: an external access is the core's own, so its effect and its frame are those of O5 and O6. -/
theorem externalSurface : Obligations.ExternalSurface := by
  intro s addr v b
  obtain ⟨hread, hbytes, hcells, hreg, hpc, hflags⟩ := byteAccess s addr b
  refine ⟨hread, hbytes, hcells, hreg, hpc, hflags, fun hlt => ?_, wordAt_top s, setWord_top s v⟩
  have hstore := setWord_of_ne (s := s) v (ne_top_of_toNat_lt hlt)
  exact ⟨_, hstore, wordAt_of_setWord hstore, keepsBytes_of_setWord hstore, frame_of_setWord hstore⟩

/-! ## Fetch (40_step.md R91, R92) -/

/-- Settles O14: both helpers advance `pc`, by `toNat_add_ofNat16`, and answer what memory holds there. -/
theorem fetchHelpers : Obligations.FetchHelpers := fun s =>
  ⟨rfl, rfl, toNat_add_ofNat16 s.pc 1, fun hpc =>
    ⟨_, _, fetch16_of_ne hpc, rfl, toNat_add_ofNat16 s.pc 2, toNat_leWord s s.pc⟩⟩

end

end Sys2Proof.Proofs
end

section
/-! Proofs of the statements on the 8-bit loads (41_load8.md). -/

namespace Sys2Proof.Proofs

open Sys2Proof.Machine

section
variable {s t u : State}

/-! ## Frames -/

theorem keepsBytes_of_mem_eq (h : t.mem = s.mem) : KeepsBytes [] s t := fun a _ => by
  rw [State.byteAt, h, State.byteAt]

/-- The frame of doing nothing. -/
theorem changesOnly_refl (s : State) : ChangesOnly [] [] 0 s s :=
  ⟨fun _ _ => rfl, fun _ _ => rfl, ⟨rfl, rfl⟩, (BitVec.add_zero _).symm⟩

/-- What follows a fetch keeps the frame if it moves `pc` no further. -/
theorem changesOnly_of_advance {cells : List Cell} {bytes : List Word} {n : Nat}
    (h : ChangesOnly cells bytes 0 (s.advance n) t) : ChangesOnly cells bytes n s t := by
  obtain ⟨hcells, hbytes, ⟨hsp, hcyc⟩, hpc⟩ := h
  refine ⟨fun x hx => ?_, fun a ha => ?_, ⟨hsp, hcyc⟩, ?_⟩
  · rw [hcells x hx, cell_advance]
  · rw [hbytes a ha, byteAt_advance]
  · rw [hpc, pc_advance, BitVec.add_zero]

/-- An assignment of the flags is outside the frame. -/
theorem changesOnly_setFlags {cells : List Cell} {bytes : List Word} {n : Nat} (h : ChangesOnly cells bytes n s t)
    (fl : Flags) : ChangesOnly cells bytes n s (t.setFlags fl) := by
  obtain ⟨hcells, hbytes, hreg, hpc⟩ := h
  exact ⟨fun x hx => (cell_setFlags t fl x).trans (hcells x hx),
    fun a ha => (byteAt_setFlags t fl a).trans (hbytes a ha), hreg, hpc⟩

/-- The frame of a write of an 8-bit operand. -/
theorem changesOnly_writeR8 (z : R8) (v : Byte) (s : State) :
    ChangesOnly (destCells z) (destBytes z s) 0 s (writeR8 z v s) :=
  ⟨keepsCells_writeR8 s z v, keepsBytes_writeR8 s z v, ⟨sp_writeR8 s z v, cyc_writeR8 s z v⟩,
    (pc_writeR8 s z v).trans (BitVec.add_zero _).symm⟩

/-! ## Loads between operands and of an immediate (R100 to R105) -/

/-- Settles O17: the load is one write of the destination, with the value the source had. -/
theorem loadOperand : Obligations.LoadOperand := fun dst src s h =>
  ⟨_, exec_completes (kind_ldInstr dst src h) id id, readR8_writeR8 s dst _, flags_writeR8 s dst _,
    changesOnly_writeR8 dst _ s⟩

/-- Settles O18: the load is one write of the destination, after the fetch. -/
theorem loadImmediate : Obligations.LoadImmediate := by
  intro dst s
  refine ⟨_, exec_completes (kind_ldImmInstr dst) id id, readR8_writeR8 _ dst _, flags_writeR8 _ dst _, ?_⟩
  rw [← destBytes_advance dst s 1]
  exact changesOnly_of_advance (changesOnly_writeR8 dst _ _)

/-! ## Accumulator loads and stores (R106 to R113) -/

/-- What reading the view of an accumulator load or store does to HL. -/
theorem toNat_hl_readPair {v : MemView} {d : Nat}
    (hv : (v, d) ∈ [(MemView.bc, 0), (.de, 0), (.hli, 1), (.hld, 65535)]) (s : State) :
    (readPair (memView v) s).2.hl.toNat = (s.hl.toNat + d) % 65536 := by
  simp only [List.mem_cons, Prod.mk.injEq, List.not_mem_nil, or_false] at hv
  have hplain : s.hl.toNat = s.hl.toNat % 65536 := (Nat.mod_eq_of_lt s.hl.isLt).symm
  obtain ⟨rfl, rfl⟩ | ⟨rfl, rfl⟩ | ⟨rfl, rfl⟩ | ⟨rfl, rfl⟩ := hv
  · exact hplain
  · exact hplain
  · exact (congrArg BitVec.toNat (hl_setHL s _)).trans (toNat_add_ofNat16 s.hl 1)
  · exact (congrArg BitVec.toNat (hl_setHL s _)).trans (toNat_add_ofNat16 s.hl 65535)

/-- The frame of reading a view. -/
theorem changesOnly_readPair (v : MemView) (s : State) : ChangesOnly (viewCells v) [] 0 s (readPair (memView v) s).2 :=
  ⟨keepsCells_readPair s v, keepsBytes_of_mem_eq (mem_readPair s _), ⟨sp_readPair s _, cyc_readPair s _⟩,
    (pc_readPair s _).trans (BitVec.add_zero _).symm⟩

/-- A byte store after a frame without bytes adds its own address. -/
theorem changesOnly_setByte {cells : List Cell} {n : Nat} (h : ChangesOnly cells [] n s t) (p : Word) (v : Byte) :
    ChangesOnly cells [p] n s (t.setByte p v) := by
  obtain ⟨hcells, hbytes, hreg, hpc⟩ := h
  exact ⟨fun x hx => (cell_setByte t p v x).trans (hcells x hx),
    keepsBytes_append hbytes (keepsBytes_setByte t p v), hreg, hpc⟩

/-- A cell write after a frame adds its own cell. -/
theorem changesOnly_setCell {cells : List Cell} {bytes : List Word} {n : Nat} (h : ChangesOnly cells bytes n s t)
    (x : Cell) (v : Byte) : ChangesOnly (x :: cells) bytes n s (t.setCell x v) := by
  obtain ⟨hcells, hbytes, ⟨hsp, hcyc⟩, hpc⟩ := h
  refine ⟨fun y hy => ?_, fun a ha => ?_, ⟨?_, ?_⟩, ?_⟩
  · obtain ⟨hyx, hyc⟩ : y ≠ x ∧ y ∉ cells := by simpa using hy
    rw [cell_setCell, if_neg hyx, hcells y hyc]
  · rw [byteAt_setCell, hbytes a ha]
  · rw [sp_setCell, hsp]
  · rw [cyc_setCell, hcyc]
  · rw [pc_setCell, hpc]

/-- Settles O19: the store is the read of the view, whose effect on HL and frame are known, then one byte store. -/
theorem accumulatorStores : Obligations.AccumulatorStores := by
  intro v d s hv
  refine ⟨_, exec_completes (kind_staInstr v) id id, byteAt_setByte_self _ _ _, ?_, flags_readPair s _,
    changesOnly_setByte (changesOnly_readPair v s) _ _⟩
  rw [afterKind, hl_setByte, toNat_hl_readPair hv]

/-- HL is no part of A. -/
theorem hl_setCell_a (s : State) (v : Byte) : (s.setCell .a v).hl = s.hl := rfl

/-- Settles O20: the load is the read of the view, then one write of A. -/
theorem accumulatorLoads : Obligations.AccumulatorLoads := by
  intro v d s hv
  refine ⟨_, exec_completes (kind_ldaInstr v) id id, rfl, ?_, flags_readPair s _,
    changesOnly_setCell (changesOnly_readPair v s) _ _⟩
  rw [afterKind, hl_setCell_a, toNat_hl_readPair hv]

end

end Sys2Proof.Proofs
end

section
/-! Proofs of the statements on 8-bit arithmetic and logic (42_alu8.md). -/

namespace Sys2Proof.Proofs

open Sys2Proof.Machine

section
variable {s t : State}

/-! ## The three sums in closed form (R121, R125) -/

theorem toNat_add8 (a b : Byte) (cin : Bool) : (add8 a b cin).r.toNat = (a.toNat + b.toNat + cin.toNat) % 256 :=
  BitVec.toNat_ofNat _ _

/-- The half-carry, computed on the operands shifted left by 4, is the carry out of the low four bits. -/
theorem h_add8 (a b : Byte) (cin : Bool) :
    (add8 a b cin).h = decide (a.toNat % 16 + b.toNat % 16 + cin.toNat > 15) :=
  decide_eq_decide.mpr (by omega)

theorem toNat_sub8 (a b : Byte) : (sub8 a b).r.toNat = (a.toNat + 256 - b.toNat) % 256 := BitVec.toNat_ofNat _ _

theorem h_sub8 (a b : Byte) : (sub8 a b).h = decide (a.toNat % 16 < b.toNat % 16) :=
  decide_eq_decide.mpr (by omega)

theorem sub8_eq_zero_iff (a b : Byte) : (sub8 a b).r = 0#8 ↔ a = b := by
  have ha := a.isLt
  have hb := b.isLt
  rw [← BitVec.toNat_inj, ← BitVec.toNat_inj, toNat_sub8, BitVec.toNat_ofNat]
  omega

theorem toNat_ofNat8_carry (cin : Bool) : (BitVec.ofNat 8 cin.toNat).toNat = cin.toNat := by
  cases cin <;> rfl

/-- The two dependent subtractions of `SBC` are one subtraction of the operand and the carry. -/
theorem toNat_sbc8 (a b : Byte) (cin : Bool) :
    ((sbc8 a b cin).r.toNat : Int) = (a.toNat - b.toNat - cin.toNat : Int) % 256 := by
  have hr : (sbc8 a b cin).r.toNat = ((a.toNat + 256 - b.toNat) % 256 + 256 - cin.toNat) % 256 := by
    simp only [sbc8, toNat_sub8, toNat_ofNat8_carry]
  have hb := b.isLt
  have hc := cin.toNat_le
  omega

theorem c_sbc8 (a b : Byte) (cin : Bool) : (sbc8 a b cin).c = decide (a.toNat < b.toNat + cin.toNat) := by
  have hc : (sbc8 a b cin).c = (decide (a.toNat < b.toNat) || decide ((a.toNat + 256 - b.toNat) % 256 < cin.toNat)) := by
    rw [← toNat_sub8, ← toNat_ofNat8_carry cin]
    rfl
  have ha := a.isLt
  have hb := b.isLt
  have hcin := cin.toNat_le
  rw [hc, ← Bool.decide_or]
  exact decide_eq_decide.mpr (by omega)

theorem h_sbc8 (a b : Byte) (cin : Bool) : (sbc8 a b cin).h = decide (a.toNat % 16 < b.toNat % 16 + cin.toNat) := by
  have hh : (sbc8 a b cin).h =
      (decide (a.toNat % 16 < b.toNat % 16) || decide ((a.toNat + 256 - b.toNat) % 256 % 16 < cin.toNat % 16)) := by
    rw [← toNat_sub8, ← toNat_ofNat8_carry cin, ← h_sub8, ← h_sub8]
    rfl
  have hb := b.isLt
  have hcin := cin.toNat_le
  rw [hh, ← Bool.decide_or]
  exact decide_eq_decide.mpr (by omega)

/-! ## Every form of a family (R120) -/

theorem changesOnly_aluApply (f : AluOp) (v : Byte) (s : State) : ChangesOnly [.a] [] 0 s (aluApply f v s) :=
  ⟨keepsCells_aluApply f v s, keepsBytes_of_mem_eq (mem_aluApply f v s), ⟨sp_aluApply f v s, cyc_aluApply f v s⟩,
    (pc_aluApply f v s).trans (BitVec.add_zero _).symm⟩

/-- Every form of a family completes in every state, with the family's result and flags and the common frame. -/
theorem aluForm_completes {f : AluOp} {i : Instr} {v : Byte} {n : Nat} (h : AluForm f s i v n) :
    ∃ t, exec i s = .next t ∧ t.a = (if aluWritesA f then (aluResult f s.a v s.flags.c).1 else s.a) ∧
      t.flags = (aluResult f s.a v s.flags.c).2 ∧ ChangesOnly [.a] [] n s t :=
  ⟨_, exec_aluForm h, a_aluApply f v (s.advance n), flags_aluApply f v (s.advance n),
    changesOnly_of_advance (changesOnly_aluApply f v (s.advance n))⟩

/-- `ADD` is `ADC` with no carry: the two differ in the carry-in alone. -/
theorem aluResult_add {f : AluOp} {cin : Nat} {c : Bool} (h : (f, cin) ∈ [(AluOp.add, 0), (.adc, c.toNat)])
    (a v : Byte) :
    ∃ c' : Bool, c'.toNat = cin ∧ aluWritesA f = true ∧ (aluResult f a v c).1 = (add8 a v c').r ∧
      (aluResult f a v c).2 = { z := (add8 a v c').r == 0#8, n := false, h := (add8 a v c').h, c := (add8 a v c').c } := by
  simp only [List.mem_cons, Prod.mk.injEq, List.not_mem_nil, or_false] at h
  obtain ⟨rfl, rfl⟩ | ⟨rfl, rfl⟩ := h
  · exact ⟨false, rfl, rfl, rfl, rfl⟩
  · exact ⟨c, rfl, rfl, rfl, rfl⟩

/-- Settles O21: both families are `add8`, whose closed form gives the sum and the flags. -/
theorem addAndAdc : Obligations.AddAndAdc := by
  intro f s i v n cin hform hcin
  obtain ⟨t, hexec, ha, hflags, hframe⟩ := aluForm_completes hform
  obtain ⟨c, rfl, hwrites, hr, hfl⟩ := aluResult_add hcin s.a v
  rw [hwrites, if_pos rfl, hr] at ha
  refine ⟨t, hexec, ?_, ?_, hframe⟩
  · rw [ha, toNat_add8]
  · rw [hflags, hfl, ← ha, h_add8, beq_eq_decide]
    rfl

/-- The flags of `SUB`, which `CP` shares. -/
theorem flags_aluResult_sub (a v : Byte) (c : Bool) :
    (aluResult .sub a v c).2 = { z := decide (a = v), n := true, h := decide (a.toNat % 16 < v.toNat % 16),
                                 c := decide (a.toNat < v.toNat) } := by
  simp only [aluResult, h_sub8, beq_eq_decide, sub8_eq_zero_iff]
  rfl

/-- Settles O22: both families have the flags of `sub8`, and only `SUB` writes its result to A. -/
theorem subAndCompare : Obligations.SubAndCompare := by
  intro s i v n hform
  obtain ⟨t, hexec, hfl, hframe⟩ : ∃ t, exec i s = .next t ∧ t.flags = (aluResult .sub s.a v s.flags.c).2 ∧
      ChangesOnly [.a] [] n s t := by
    obtain hsub | hcp := hform
    · obtain ⟨t, hexec, -, hfl, hframe⟩ := aluForm_completes hsub
      exact ⟨t, hexec, hfl, hframe⟩
    · obtain ⟨t, hexec, -, hfl, hframe⟩ := aluForm_completes hcp
      exact ⟨t, hexec, hfl, hframe⟩
  refine ⟨t, hexec, fun hsub => ?_, fun hcp => ?_, hfl.trans (flags_aluResult_sub _ _ _), hframe⟩
  · obtain ⟨t', hexec', ha, -⟩ := aluForm_completes hsub
    cases hexec.symm.trans hexec'
    rw [ha]
    exact toNat_sub8 s.a v
  · obtain ⟨t', hexec', ha, -⟩ := aluForm_completes hcp
    cases hexec.symm.trans hexec'
    exact ha

/-- Settles O23: the closed forms of the three components of `sbc8`. -/
theorem subtractWithCarry : Obligations.SubtractWithCarry := by
  intro s i v n hform
  obtain ⟨t, hexec, ha, hflags, hframe⟩ := aluForm_completes hform
  have hr : t.a = (sbc8 s.a v s.flags.c).r := ha
  refine ⟨t, hexec, ?_, ?_, hframe⟩
  · rw [hr, toNat_sbc8]
  · rw [hflags, hr, ← c_sbc8, ← h_sbc8, ← beq_eq_decide]
    rfl

/-- Settles O24: the three families are the bitwise operations of `BitVec`. -/
theorem logic : Obligations.Logic := by
  intro f op h s i v n hf hform
  obtain ⟨t, hexec, ha, hflags, hframe⟩ := aluForm_completes hform
  refine ⟨t, hexec, fun k _ => ?bits, ?flags, hframe⟩
  case bits =>
    rw [ha]
    obtain ⟨rfl, rfl, -⟩ | ⟨rfl, rfl, -⟩ | ⟨rfl, rfl, -⟩ := hf
    · exact BitVec.getLsbD_and
    · exact BitVec.getLsbD_xor
    · exact BitVec.getLsbD_or
  case flags =>
    rw [hflags, ha, ← beq_eq_decide]
    obtain ⟨rfl, -, rfl⟩ | ⟨rfl, -, rfl⟩ | ⟨rfl, -, rfl⟩ := hf <;> rfl

/-! ## Increment and decrement (R130, R131) -/

theorem incResult_eq (v : Byte) (fl : Flags) :
    (incResult v fl).1.toNat = (v.toNat + 1) % 256 ∧
      (incResult v fl).2 = { z := decide ((incResult v fl).1 = 0#8), n := false, h := decide (v.toNat % 16 = 15),
                             c := fl.c } := by
  have hh : (add8 v 1#8 false).h = decide (v.toNat % 16 = 15) := by
    rw [h_add8]
    exact decide_eq_decide.mpr (show v.toNat % 16 + 1 + 0 > 15 ↔ v.toNat % 16 = 15 by omega)
  exact ⟨toNat_add8 v 1#8 false, by rw [← beq_eq_decide, ← hh]; rfl⟩

theorem decResult_eq (v : Byte) (fl : Flags) :
    (decResult v fl).1.toNat = (v.toNat + 255) % 256 ∧
      (decResult v fl).2 = { z := decide ((decResult v fl).1 = 0#8), n := true, h := decide (v.toNat % 16 = 0),
                             c := fl.c } := by
  have hh : (sub8 v 1#8).h = decide (v.toNat % 16 = 0) := by
    rw [h_sub8]
    exact decide_eq_decide.mpr Nat.lt_one_iff
  exact ⟨toNat_sub8 v 1#8, by rw [← beq_eq_decide, ← hh]; rfl⟩

/-- A read-modify-write of an operand leaves the value written in it, and the flags assigned. -/
theorem writeR8_setFlags_spec (z : R8) (v : Byte) (fl : Flags) (s : State) :
    readR8 z ((writeR8 z v s).setFlags fl) = v ∧
      ChangesOnly (destCells z) (destBytes z s) 0 s ((writeR8 z v s).setFlags fl) :=
  ⟨by rw [readR8_setFlags, readR8_writeR8], changesOnly_setFlags (changesOnly_writeR8 z v s) fl⟩

/-- Settles O25: both are a write of the operand and the flags, with the results of `incResult_eq` and `decResult_eq`. -/
theorem incrementDecrementByte : Obligations.IncrementDecrementByte := by
  intro dst i d low n s h
  obtain ⟨res, hexec, hr, hfl⟩ : ∃ res : Byte × Flags, exec i s = .next ((writeR8 dst res.1 s).setFlags res.2) ∧
      res.1.toNat = ((readR8 dst s).toNat + d) % 256 ∧
      res.2 = { z := decide (res.1 = 0#8), n := n, h := decide ((readR8 dst s).toNat % 16 = low),
                c := s.flags.c } := by
    simp only [List.mem_cons, Prod.mk.injEq, List.not_mem_nil, or_false] at h
    obtain ⟨rfl, rfl, rfl, rfl⟩ | ⟨rfl, rfl, rfl, rfl⟩ := h
    · exact ⟨_, exec_completes (kind_incInstr dst) id id, incResult_eq (readR8 dst s) s.flags⟩
    · exact ⟨_, exec_completes (kind_decInstr dst) id id, decResult_eq (readR8 dst s) s.flags⟩
  obtain ⟨hread, hframe⟩ := writeR8_setFlags_spec dst res.1 res.2 s
  refine ⟨_, hexec, ?_, ?_, hframe⟩ <;> rw [hread]
  · exact hr
  · exact hfl

end

end Sys2Proof.Proofs
end

section
/-! Proofs of the statements on 16-bit instructions and the stack (43_wide16.md). -/

namespace Sys2Proof.Proofs

open Sys2Proof.Machine

section
variable {s t : State}

/-! ## 16-bit loads and arithmetic (R150 to R153) -/

/-- Settles O26: the load is one write of the operand, after the fetch of the word. -/
theorem loadWordImmediate : Obligations.LoadWordImmediate := by
  intro r s hpc
  refine ⟨_, exec_completes (kind_ld16Instr r) id hpc, ?_, fun hr => ?_, cyc_writeR16 _ r _, flags_writeR16 _ r _,
    pc_writeR16 _ r _, fun x hx => ?_, fun a _ => ?_⟩ <;> simp only [afterKind]
  · rw [readR16_writeR16, toNat_leWord]
  · rw [sp_writeR16, if_neg hr, sp_advance]
  · rw [keepsCells_writeR16 _ r _ x hx, cell_advance]
  · rw [byteAt_writeR16, byteAt_advance]

/-- Settles O27: both are one write of the operand, moved by 1 or by 65535. -/
theorem incrementDecrementWord : Obligations.IncrementDecrementWord := by
  intro r i d s h
  have hexec : exec i s = .next (writeR16 r (readR16 r s + BitVec.ofNat 16 d) s) := by
    simp only [List.mem_cons, Prod.mk.injEq, List.not_mem_nil, or_false] at h
    obtain ⟨rfl, rfl⟩ | ⟨rfl, rfl⟩ := h
    · exact exec_completes (kind_inc16Instr r) id id
    · exact exec_completes (kind_dec16Instr r) id id
  refine ⟨_, hexec, ?_, fun hr => ?_, cyc_writeR16 s r _, flags_writeR16 s r _, pc_writeR16 s r _,
    keepsCells_writeR16 s r _, fun a _ => byteAt_writeR16 s r _ a⟩
  · rw [readR16_writeR16, toNat_add_ofNat16]
  · rw [sp_writeR16, if_neg hr]

theorem changesOnly_setHL (s : State) (v : Word) : ChangesOnly [.h, .l] [] 0 s (s.setHL v) :=
  ⟨keepsCells_setHL s v, keepsBytes_of_mem_eq (mem_setHL s v), ⟨sp_setHL s v, cyc_setHL s v⟩,
    (pc_setHL s v).trans (BitVec.add_zero _).symm⟩

/-- Settles O28: one write of HL and one of the flags. -/
theorem addToHL : Obligations.AddToHL := by
  intro r s
  refine ⟨_, exec_completes (kind_addHLInstr r) id id, ?_, rfl, changesOnly_setFlags (changesOnly_setHL s _) _⟩
  rw [afterKind, hl_setFlags, hl_setHL]
  exact BitVec.toNat_ofNat _ _

/-! ## Push and pop (R154 to R157) -/

theorem keepsCells_pushed (v : Word) (s : State) : KeepsCells [] s (pushed v s) := fun x _ => cell_pushed v s x

theorem keepsBytes_pushed (v : Word) (s : State) :
    KeepsBytes [s.sp + 65534#16, s.sp + 65535#16] s (pushed v s) :=
  fun _ ha => (storesWithin_pushed v s).memRead_eq ha

/-- A member of the stack set is the pair of its two cells, which differ. -/
theorem stackView_eq_pair {r : R16S} {hi lo : Cell}
    (hr : (r, hi, lo) ∈ [(R16S.bc, Cell.b, Cell.c), (.de, .d, .e), (.hl, .h, .l), (.af, .a, .f)]) (v : Word)
    (s : State) : readR16S r s = s.pair hi lo ∧ writeR16S r v s = s.setPair hi lo v ∧ hi ≠ lo := by
  simp only [List.mem_cons, Prod.mk.injEq, List.not_mem_nil, or_false] at hr
  obtain ⟨rfl, rfl, rfl⟩ | ⟨rfl, rfl, rfl⟩ | ⟨rfl, rfl, rfl⟩ | ⟨rfl, rfl, rfl⟩ := hr
  all_goals exact ⟨rfl, rfl, by decide⟩

/-- Settles O29: the two bytes of `pushed` are the halves of the pair, that is its two cells. -/
theorem pushPair : Obligations.PushPair := by
  intro r hi lo s hr hsp
  obtain ⟨hread, -, -⟩ := stackView_eq_pair hr 0#16 s
  refine ⟨_, exec_completes (kind_pushInstr r) id hsp, ?_, ?_, ?_, flags_pushed _ s, cyc_pushed _ s, pc_pushed _ s,
    keepsCells_pushed _ s, keepsBytes_pushed _ s⟩ <;> simp only [afterKind, sp_pushed]
  · exact toNat_add_ofNat16 s.sp 65534
  · rw [byteAt_low_pushed, hread, State.pair, loByte_mkWord]
  · rw [byteAt_high_pushed, hread, State.pair, hiByte_mkWord]

/-- Settles O30: the pop is one write of the pair, of the word at SP. -/
theorem popPair : Obligations.PopPair := by
  intro r hi lo s hr hsp
  have hexec : exec (popInstr r) s = .next ((s.setSP (s.sp + 2#16)).setPair hi lo (leWord s s.sp)) := by
    rw [exec_completes (kind_popInstr r) id hsp, afterKind, (stackView_eq_pair hr _ _).2.1]
  have hne : hi ≠ lo := (stackView_eq_pair hr 0#16 s).2.2
  refine ⟨_, hexec, ?_, ?_, ?_, flags_setPair _ hi lo _, cyc_setPair _ hi lo _, pc_setPair _ hi lo _, ?_, ?_⟩
  · rw [cell_setPair, if_pos rfl, leWord, loByte_mkWord]
  · rw [cell_setPair, if_neg hne, if_pos rfl, leWord, hiByte_mkWord]
  · rw [sp_setPair]
    exact toNat_add_ofNat16 s.sp 2
  · exact fun x hx => (keepsCells_setPair _ hi lo _ x hx).trans (cell_setSP s _ x)
  · exact fun a _ => (byteAt_setPair _ hi lo _ a).trans (byteAt_setSP s _ a)

/-- The slot a push that completes leaves SP at is one a pop can read, and the pop brings SP back. -/
theorem pushSlot_ne_top {v : Word} (h : v ≠ 0x0001#16) : v + 65534#16 ≠ 0xFFFF#16 := mt (pushSlot_top v).mp h

theorem pushSlot_add_two (v : Word) : v + 65534#16 + 2#16 = v := by
  rw [BitVec.add_assoc]
  exact BitVec.add_zero v

/-- Writing back to a pair the value it had leaves each cell as it was. -/
theorem cell_setPair_pair (hi lo : Cell) {x : Cell} (h : t.cell x = s.cell x) :
    (t.setPair hi lo (s.pair hi lo)).cell x = s.cell x := by
  rw [cell_setPair, State.pair, loByte_mkWord, hiByte_mkWord]
  split_ifs with hlo hhi
  · rw [hlo]
  · rw [hhi]
  · exact h

theorem cell_writeR16S_readR16S (r : R16S) {x : Cell} (h : t.cell x = s.cell x) :
    (writeR16S r (readR16S r s) t).cell x = s.cell x := by
  cases r <;> exact cell_setPair_pair _ _ h

/-- Settles O31: the word the pop reads is the one pushed, and SP goes down and up by 2. -/
theorem pushPopRoundTrip : Obligations.PushPopRoundTrip := by
  intro r r' s hsp
  have hpush := exec_completes (s := s) (kind_pushInstr r) id hsp
  have hpop : exec (popInstr r') (pushed (readR16S r s) s) =
      .next (writeR16S r' (readR16S r s) ((pushed (readR16S r s) s).setSP s.sp)) := by
    rw [exec_completes (kind_popInstr r') id (by rw [WordAccessFails, sp_pushed]; exact pushSlot_ne_top hsp), afterKind,
      sp_pushed, leWord_pushed, pushSlot_add_two]
  refine ⟨_, _, hpush, hpop, readR16S_writeR16S _ r' _, ?_, ?_, ?_⟩
  · rw [sp_writeR16S, sp_setSP]
  · intro x hx
    rw [keepsCells_writeR16S _ r' _ x hx, cell_setSP, cell_pushed]
  · rintro rfl x -
    exact cell_writeR16S_readR16S r' (by rw [cell_setSP, cell_pushed])

end

end Sys2Proof.Proofs
end

section
/-! Proofs of the statements on control transfer (44_control.md). -/

namespace Sys2Proof.Proofs

open Sys2Proof.Machine

section
variable {s t : State} {i : Instr}

/-! ## No-op and halt (R170, R171) -/

/-- Settles O32: both forms leave the state itself. -/
theorem nopAndHalt : Obligations.NopAndHalt := by
  intro i s hi
  obtain rfl | rfl : i = .nop ∨ i = .halt := by simpa using hi
  · exact exec_completes (k := .nop) rfl id id
  · exact exec_completes (k := .halt) rfl id id

/-! ## Jumps (R172 to R175) -/

theorem exec_jumpAbsolute (hi : i = .jp_a16 ∨ ∃ cc, i = jpccInstr cc ∧ condHolds cc s.flags = true)
    (hpc : s.pc ≠ 0xFFFF#16) : exec i s = .next (s.setPC (leWord s s.pc)) := by
  obtain rfl | ⟨cc, rfl, hc⟩ := hi
  · exact exec_completes (k := .jp) rfl id hpc
  · rw [exec_completes (kind_jpccInstr cc) id fun h => hpc h.2, afterKind, if_pos hc]

/-- Settles O33: taken or unconditional, the jump assigns `pc` the word at it. -/
theorem jumpAbsolute : Obligations.JumpAbsolute := fun _ s hi hpc =>
  ⟨_, exec_jumpAbsolute hi hpc, toNat_leWord s s.pc, rfl⟩

/-- The displacement has the operand's signed value modulo 65536 (30_encoding.md R69). -/
theorem toNat_sext16 (v : Byte) : ((sext16 v).toNat : Int) = v.toInt % 65536 := by
  have hpos : 0 ≤ v.toInt % 65536 := Int.emod_nonneg _ (by decide)
  rw [sext16, BitVec.signExtend, BitVec.toNat_ofInt]
  exact Int.toNat_of_nonneg hpos

theorem exec_jumpRelative (hi : i = .jr_r8 ∨ ∃ cc, i = jrccInstr cc ∧ condHolds cc s.flags = true) :
    exec i s = .next (s.setPC (s.pc + 1#16 + sext16 (s.byteAt s.pc))) := by
  obtain rfl | ⟨cc, rfl, hc⟩ := hi
  · exact exec_completes (k := .jr) rfl id id
  · rw [exec_completes (kind_jrccInstr cc) id id, afterKind, if_pos hc]

/-- Settles O34: the sum of `pc`, 1 and the displacement, each modulo 65536. -/
theorem jumpRelative : Obligations.JumpRelative := by
  intro i s hi
  refine ⟨_, exec_jumpRelative hi, ?_, rfl⟩
  have hd := toNat_sext16 (s.byteAt s.pc)
  rw [pc_setPC, BitVec.toNat_add, toNat_add_ofNat16]
  omega

/-! ## Conditional instructions that are not taken (R176) -/

/-- Settles O38: by the family, the skip of the operand bytes. -/
theorem notTakenSkips : Obligations.NotTakenSkips := by
  intro cc i n s hi hc
  have hexec : exec i s = .next (s.advance n) := by
    simp only [List.mem_cons, Prod.mk.injEq, List.not_mem_nil, or_false] at hi
    rw [exec_eq_runKind]
    obtain ⟨rfl, rfl⟩ | ⟨rfl, rfl⟩ | ⟨rfl, rfl⟩ | ⟨rfl, rfl⟩ := hi
    · rw [kind_jrccInstr]
      exact ifTaken_of_false _ 1 hc
    · rw [kind_jpccInstr]
      exact ifTaken_of_false _ 2 hc
    · rw [kind_callccInstr]
      exact ifTaken_of_false _ 2 hc
    · rw [kind_retccInstr]
      exact ifTaken_of_false _ 0 hc
  exact ⟨_, hexec, toNat_add_ofNat16 s.pc n, rfl⟩

/-! ## Calls and restarts (R178, R179, R184) -/

/-- `t` is `s` after a push of `v`, `pc` apart: what calls and restarts have in common. -/
def PushedReturn (v : Word) (s t : State) : Prop :=
  t.sp = s.sp + 65534#16 ∧ leWord t t.sp = v ∧ t.flags = s.flags ∧ t.cyc = s.cyc ∧ KeepsCells [] s t ∧
    KeepsBytes [s.sp + 65534#16, s.sp + 65535#16] s t

@[simp] theorem leWord_setPC (s : State) (v p : Word) : leWord (s.setPC v) p = leWord s p := by
  rw [leWord, byteAt_setPC, byteAt_setPC, leWord]

theorem pushedReturn_setPC (v p : Word) (s : State) : PushedReturn v s ((pushed v s).setPC p) := by
  refine ⟨?_, ?_, ?_, ?_, fun x _ => ?_, fun a ha => ?_⟩
  · rw [sp_setPC, sp_pushed]
  · rw [leWord_setPC, sp_setPC, sp_pushed, leWord_pushed]
  · rw [flags_setPC, flags_pushed]
  · rw [cyc_setPC, cyc_pushed]
  · rw [cell_setPC, cell_pushed]
  · rw [byteAt_setPC, keepsBytes_pushed v s a ha]

theorem exec_call (hi : i = .call_a16 ∨ ∃ cc, i = callccInstr cc ∧ condHolds cc s.flags = true)
    (hsp : s.sp ≠ 0x0001#16) (hpc : s.pc ≠ 0xFFFF#16) : exec i s = .next (called s) := by
  have hne : ¬ (s.sp = 0x0001#16 ∨ s.pc = 0xFFFF#16) := not_or.mpr ⟨hsp, hpc⟩
  obtain rfl | ⟨cc, rfl, hc⟩ := hi
  · exact exec_completes (k := .call) rfl id hne
  · rw [exec_completes (kind_callccInstr cc) id fun h => hne h.2, afterKind, if_pos hc]

/-- Settles O35: a push of the address after the operand, then an assignment to `pc` of the word at the operand, read after the push
(D16). -/
theorem call : Obligations.Call := by
  intro i s hi hsp hpc
  obtain ⟨hsp', hword, hflags, hcyc, hcells, hbytes⟩ :=
    pushedReturn_setPC (s.pc + 2#16) (leWord (pushed (s.pc + 2#16) s) s.pc) s
  refine ⟨_, exec_call hi hsp hpc, ?_, ?_, ?_, hflags, hcyc, hcells, hbytes⟩ <;> rw [called]
  · rw [hsp']
    exact toNat_add_ofNat16 s.sp 65534
  · rw [← toNat_leWord, hword]
    exact toNat_add_ofNat16 s.pc 2
  · rw [← toNat_leWord, pc_setPC, leWord_setPC]

theorem exec_restart (x : BitVec 3) (hsp : s.sp ≠ 0x0001#16) :
    exec (rstInstr x) s = .next ((pushed s.pc s).setPC (BitVec.ofNat 16 (8 * x.toNat))) :=
  exec_completes (kind_rstInstr x) id hsp

/-- Settles O37: a push of `pc`, then an assignment of 8 times the index, which is below 65536. -/
theorem restart : Obligations.Restart := by
  intro x s hsp
  obtain ⟨hsp', hword, hflags, hcyc, hcells, hbytes⟩ :=
    pushedReturn_setPC s.pc (BitVec.ofNat 16 (8 * x.toNat)) s
  refine ⟨_, exec_restart x hsp, ?_, ?_, ?_, hflags, hcyc, hcells, hbytes⟩
  · have hx := x.isLt
    rw [pc_setPC, BitVec.toNat_ofNat]
    omega
  · rw [hsp']
    exact toNat_add_ofNat16 s.sp 65534
  · rw [← toNat_leWord, hword]

/-! ## Returns (R180 to R182, R185) -/

theorem exec_return (hi : i ∈ [Instr.ret, .reti] ∨ ∃ cc, i = retccInstr cc ∧ condHolds cc s.flags = true)
    (hsp : s.sp ≠ 0xFFFF#16) : exec i s = .next (returned s) := by
  simp only [List.mem_cons, List.not_mem_nil, or_false] at hi
  obtain (rfl | rfl) | ⟨cc, rfl, hc⟩ := hi
  · exact exec_completes (k := .ret) rfl id hsp
  · exact exec_completes (k := .reti) rfl id hsp
  · rw [exec_completes (kind_retccInstr cc) id fun h => hsp h.2, afterKind, if_pos hc]

/-- Settles O36: the word at SP goes to `pc`, and SP moves up by 2. -/
theorem return' : Obligations.Return := fun _ s hi hsp =>
  ⟨_, exec_return hi hsp, toNat_leWord s s.sp, toNat_add_ofNat16 s.sp 2, rfl⟩

/-- A return in a state that a push of `v` has left comes back to `v` and restores SP. -/
theorem return_of_pushedReturn {v : Word} {r : Instr} (h : PushedReturn v s t) (hsp : s.sp ≠ 0x0001#16)
    (hr : r ∈ [Instr.ret, .reti]) :
    ∃ u, exec r t = .next u ∧ u.pc = v ∧ u.sp = s.sp ∧ u.flags = s.flags ∧ KeepsCells [] s u := by
  obtain ⟨hsp', hword, hflags, -, hcells, -⟩ := h
  refine ⟨_, exec_return (.inl hr) (hsp' ▸ pushSlot_ne_top hsp), ?_, ?_, hflags, fun x hx => ?_⟩
  · rw [returned, pc_setPC, hword]
  · rw [returned, sp_setPC, sp_setSP, hsp', pushSlot_add_two]
  · rw [returned, cell_setPC, cell_setSP, hcells x hx]

/-- A call or a restart leaves a state with the address after its `n` operand bytes pushed. -/
theorem exec_call_or_restart {n : Nat}
    (hi : (i = .call_a16 ∧ n = 2 ∧ s.pc ≠ 0xFFFF#16) ∨ ∃ x, i = rstInstr x ∧ n = 0) (hsp : s.sp ≠ 0x0001#16) :
    ∃ t, exec i s = .next t ∧ PushedReturn (s.pc + BitVec.ofNat 16 n) s t := by
  obtain ⟨rfl, rfl, hpc⟩ | ⟨x, rfl, rfl⟩ := hi
  · exact ⟨_, exec_call (.inl rfl) hsp hpc, pushedReturn_setPC _ _ s⟩
  · exact ⟨_, exec_restart x hsp, (BitVec.add_zero s.pc).symm ▸ pushedReturn_setPC s.pc _ s⟩

/-- Settles O39: the return pops what the call or restart pushed. -/
theorem callReturnRoundTrip : Obligations.CallReturnRoundTrip := by
  intro i r n s hi hr hsp
  obtain ⟨t, hcall, hpushed⟩ := exec_call_or_restart hi hsp
  obtain ⟨u, hret, hpc, hsp', hflags, hcells⟩ := return_of_pushedReturn hpushed hsp hr
  exact ⟨t, u, hcall, hret, hpc ▸ toNat_add_ofNat16 s.pc n, hsp', hflags, hcells⟩

end

end Sys2Proof.Proofs
end

section
/-! Proofs of the statements on the extended table (45_extended.md), bit by bit. -/

namespace Sys2Proof.Proofs

open Sys2Proof.Machine

section
variable {s t : State}

/-! ## The bits of the numbers the rotates and shifts compute (R203 to R210) -/

/-- Twice `a` with a new lowest bit, seen in its low eight bits. -/
theorem testBit_double_add (a : Nat) (x : Bool) {k : Nat} (hk : k < 8) :
    (a * 2 % 256 + x.toNat).testBit k = if k = 0 then x else a.testBit (k - 1) := by
  have hx := x.toNat_le
  have hmod : (a * 2 % 256 + x.toNat) % 2 ^ 8 = (a * 2 + x.toNat) % 2 ^ 8 := by omega
  have hlow : (a * 2 % 256 + x.toNat).testBit k = (a * 2 + x.toNat).testBit k := by
    simpa only [Nat.testBit_mod_two_pow, hk, decide_true, Bool.true_and] using congrArg (Nat.testBit · k) hmod
  rw [hlow]
  cases k with
  | zero => cases x <;> simp [Nat.testBit_zero]
  | succ k =>
    have hdiv : (a * 2 + x.toNat) / 2 = a := by omega
    rw [Nat.testBit_succ, hdiv, if_neg (Nat.succ_ne_zero k), Nat.succ_sub_one]

/-- Half of `a` with a new bit 7. -/
theorem testBit_half_add {a : Nat} (ha : a < 256) (x : Bool) {k : Nat} (hk : k < 8) :
    (a / 2 + 128 * x.toNat).testBit k = if k = 7 then x else a.testBit (k + 1) := by
  rw [Nat.add_comm, Nat.testBit_two_pow_mul_add (i := 7) _ (by omega)]
  by_cases h7 : k = 7
  · subst h7
    cases x <;> rfl
  · rw [if_pos (by omega), if_neg h7, Nat.testBit_succ]

/-- The two halves of a byte exchanged. -/
theorem testBit_swap {a : Nat} (ha : a < 256) {k : Nat} (hk : k < 8) :
    (a % 16 * 16 + a / 16).testBit k = a.testBit ((k + 4) % 8) := by
  rw [Nat.mul_comm, Nat.testBit_two_pow_mul_add (i := 4) _ (by omega)]
  by_cases h4 : k < 4
  · rw [if_pos h4, Nat.mod_eq_of_lt (by omega)]
    exact Nat.testBit_div_two_pow (n := 4) a k
  · have hk4 : (k + 4) % 8 = k - 4 := by omega
    have hlow : decide (k - 4 < 4) = true := decide_eq_true (by omega)
    rw [if_neg h4, hk4]
    exact (Nat.testBit_mod_two_pow a 4 (k - 4)).trans (by rw [hlow, Bool.true_and])

theorem getLsbD_ofNat8 (n : Nat) {k : Nat} (hk : k < 8) : (BitVec.ofNat 8 n).getLsbD k = n.testBit k := by
  rw [BitVec.getLsbD_ofNat, decide_eq_true hk, Bool.true_and]

/-- Every bit of a rotate, shift or swap is the bit its rule names. -/
theorem getLsbD_rotByte (o : RotOp) (v : Byte) (cin : Bool) {k : Nat} (hk : k < 8) :
    (rotByte o v cin).getLsbD k =
      match o with
      | .rlc => v.getLsbD ((k + 7) % 8)
      | .rrc => v.getLsbD ((k + 1) % 8)
      | .rl => if k = 0 then cin else v.getLsbD (k - 1)
      | .rr => if k = 7 then cin else v.getLsbD (k + 1)
      | .sla => if k = 0 then false else v.getLsbD (k - 1)
      | .sra => if k = 7 then v.getLsbD 7 else v.getLsbD (k + 1)
      | .swap => v.getLsbD ((k + 4) % 8)
      | .srl => if k = 7 then false else v.getLsbD (k + 1) := by
  have hleft (x : Bool) : (BitVec.ofNat 8 (v.toNat * 2 % 256 + x.toNat)).getLsbD k =
      if k = 0 then x else v.getLsbD (k - 1) := by
    rw [getLsbD_ofNat8 _ hk, testBit_double_add _ _ hk]
    rfl
  have hright (x : Bool) : (BitVec.ofNat 8 (v.toNat / 2 + 128 * x.toNat)).getLsbD k =
      if k = 7 then x else v.getLsbD (k + 1) := by
    rw [getLsbD_ofNat8 _ hk, testBit_half_add v.isLt _ hk]
    rfl
  cases o with
  | rlc =>
    show _ = v.getLsbD ((k + 7) % 8)
    refine (hleft _).trans ?_
    split_ifs with h0
    · rw [h0]
    · rw [show (k + 7) % 8 = k - 1 by omega]
  | rrc =>
    show _ = v.getLsbD ((k + 1) % 8)
    refine (hright _).trans ?_
    split_ifs with h7
    · rw [h7]
    · rw [Nat.mod_eq_of_lt (show k + 1 < 8 by omega)]
  | rl => exact hleft cin
  | rr => exact hright cin
  | sla => exact hleft false
  | sra => exact hright _
  | swap => exact (getLsbD_ofNat8 _ hk).trans (testBit_swap v.isLt hk)
  | srl => exact hright false

/-- Settles O40: a write of the operand and the flags, with the bits of `getLsbD_rotByte`. -/
theorem rotatesAndShifts : Obligations.RotatesAndShifts := by
  rintro o z s v rfl
  obtain ⟨hread, hframe⟩ := writeR8_setFlags_spec z (rotResult o (readR8 z s) s.flags.c).1
    (rotResult o (readR8 z s) s.flags.c).2 s
  refine ⟨_, exec_completes (kind_rotInstr o z) id id, fun k hk => ?_, ?_, hframe⟩ <;> rw [afterKind, afterExt, hread]
  · exact getLsbD_rotByte o _ _ hk
  · rw [← beq_eq_decide]
    cases o <;> rfl

/-! ## Bit test, reset and set (R211 to R213) -/

/-- Settles O41: one assignment of the flags. -/
theorem bitTest : Obligations.BitTest := fun b z s =>
  ⟨_, exec_completes (kind_bitInstr b z) id id, rfl, changesOnly_setFlags (changesOnly_refl s) _⟩

/-- A number whose part from bit `b` up is `q`, with `x` as its lowest bit and the old bits above. -/
theorem testBit_replace {v b q : Nat} {x : Bool} (hdiv : q / 2 = v / 2 ^ b / 2) (hmod : q % 2 = x.toNat) (k : Nat) :
    (2 ^ b * q + v % 2 ^ b).testBit k = if k = b then x else v.testBit k := by
  rw [Nat.testBit_two_pow_mul_add _ (Nat.mod_lt _ (Nat.two_pow_pos b))]
  rcases Nat.lt_trichotomy k b with hlt | rfl | hgt
  · rw [if_pos hlt, if_neg (by omega), Nat.testBit_mod_two_pow]
    simp [hlt]
  · rw [if_neg (lt_irrefl k), if_pos rfl, Nat.sub_self, Nat.testBit_zero, hmod]
    cases x <;> rfl
  · obtain ⟨j, rfl⟩ : ∃ j, k = b + (j + 1) := ⟨k - b - 1, by omega⟩
    rw [if_neg (by omega), if_neg (by omega), Nat.add_sub_cancel_left, Nat.testBit_succ, hdiv, ← Nat.testBit_succ,
      Nat.testBit_div_two_pow, Nat.add_comm]

theorem bitNat_eq (v : Byte) (b : Nat) : bitNat v b = v.toNat / 2 ^ b % 2 := Nat.toNat_testBit v.toNat b

theorem getLsbD_resByte (b : BitVec 3) (v : Byte) {k : Nat} (hk : k < 8) :
    (resByte b v).getLsbD k = if k = b.toNat then false else v.getLsbD k := by
  have hsplit : v.toNat - 2 ^ b.toNat * (v.toNat / 2 ^ b.toNat % 2) =
      2 ^ b.toNat * (v.toNat / 2 ^ b.toNat - v.toNat / 2 ^ b.toNat % 2) + v.toNat % 2 ^ b.toNat := by
    have hv := Nat.div_add_mod v.toNat (2 ^ b.toNat)
    have hle := Nat.mul_le_mul_left (2 ^ b.toNat) (Nat.mod_le (v.toNat / 2 ^ b.toNat) 2)
    rw [Nat.mul_sub]
    omega
  rw [resByte, bitNat_eq, getLsbD_ofNat8 _ hk, hsplit]
  have hq (q : Nat) : (q - q % 2) / 2 = q / 2 ∧ (q - q % 2) % 2 = 0 := by omega
  exact testBit_replace (hq _).1 (hq _).2 k

theorem getLsbD_setByteBit (b : BitVec 3) (v : Byte) {k : Nat} (hk : k < 8) :
    (setByteBit b v).getLsbD k = if k = b.toNat then true else v.getLsbD k := by
  have hsplit : v.toNat + 2 ^ b.toNat * (1 - v.toNat / 2 ^ b.toNat % 2) =
      2 ^ b.toNat * (v.toNat / 2 ^ b.toNat + (1 - v.toNat / 2 ^ b.toNat % 2)) + v.toNat % 2 ^ b.toNat := by
    have hv := Nat.div_add_mod v.toNat (2 ^ b.toNat)
    rw [Nat.mul_add]
    omega
  rw [setByteBit, bitNat_eq, getLsbD_ofNat8 _ hk, hsplit]
  have hq (q : Nat) : (q + (1 - q % 2)) / 2 = q / 2 ∧ (q + (1 - q % 2)) % 2 = 1 := by omega
  exact testBit_replace (hq _).1 (hq _).2 k

/-- Settles O42: one write of the operand, with the bits of `getLsbD_resByte` or `getLsbD_setByteBit`. -/
theorem bitResetAndSet : Obligations.BitResetAndSet := by
  intro b z i x s h
  simp only [List.mem_cons, Prod.mk.injEq, List.not_mem_nil, or_false] at h
  obtain ⟨rfl, rfl⟩ | ⟨rfl, rfl⟩ := h
  · refine ⟨_, exec_completes (kind_resInstr b z) id id, fun k hk => ?_, flags_writeR8 s z _, changesOnly_writeR8 z _ s⟩
    rw [afterKind, afterExt, readR8_writeR8, getLsbD_resByte b _ hk]
  · refine ⟨_, exec_completes (kind_setInstr b z) id id, fun k hk => ?_, flags_writeR8 s z _, changesOnly_writeR8 z _ s⟩
    rw [afterKind, afterExt, readR8_writeR8, getLsbD_setByteBit b _ hk]

/-! ## The escape (R200) -/

/-- Settles O43: the escape leaves the state of the extended instruction after the fetch, and that one moves no `pc`. -/
theorem escapeRunsExtended : Obligations.EscapeRunsExtended := by
  intro s
  have hrun := runExt_eq (extFields (s.byteAt s.pc)) (s.advance 1)
  obtain ⟨-, hpc, -⟩ := runExt_keeps hrun
  exact ⟨_, exec_completes (k := .escape) rfl id id, exec_completes (kind_toInstr _) id id, hpc⟩

end

end Sys2Proof.Proofs
end

section
/-! Proofs of the statements on instructions without execution, on failures and on the step as a whole
(46_unimplemented.md, 60_exceptions.md, 40_step.md). -/

namespace Sys2Proof.Proofs

open Sys2Proof.Machine

section
variable {s t : State} {i : Instr} {cfg : Config}

/-! ## Failures of an execution (R270 to R273) -/

/-- The 22 instructions of R231 to R252 with their mnemonics. -/
def unimplementedRows : List (Instr × String) :=
  [(Instr.rlca, "RLCA"), (.rrca, "RRCA"), (.rla, "RLA"), (.rra, "RRA"), (.daa, "DAA"), (.cpl, "CPL"),
    (.scf, "SCF"), (.ccf, "CCF"), (.ld_ma16_SP, "LD (a16),SP"), (.stop, "STOP"), (.ldh_ma8_A, "LDH (a8),A"),
    (.ldh_A_ma8, "LDH A,(a8)"), (.ld_mC_A, "LD (C),A"), (.ld_A_mC, "LD A,(C)"), (.ld_ma16_A, "LD (a16),A"),
    (.ld_A_ma16, "LD A,(a16)"), (.add_SP_r8, "ADD SP,r8"), (.ld_HL_SPr8, "LD HL,SP+r8"), (.jp_mHL, "JP (HL)"),
    (.ld_SP_HL, "LD SP,HL"), (.di, "DI"), (.ei, "EI")]

theorem kind_eq_unimpl_iff {m : String} : (∃ op f, i.kind = .unimpl m op f) ↔ (i, m) ∈ unimplementedRows := by
  constructor
  · rintro ⟨op, f, h⟩
    cases i <;> cases h <;> decide
  · intro h
    have hrow : ∀ p ∈ unimplementedRows, p.1.kind = .unimpl p.2 p.1.kind.opcode p.1.format := by decide
    exact ⟨_, _, hrow _ h⟩

/-- The 11 bytes of R260. -/
def unsupportedBytes : List Byte :=
  [0xD3#8, 0xDB#8, 0xDD#8, 0xE3#8, 0xE4#8, 0xEB#8, 0xEC#8, 0xED#8, 0xF4#8, 0xFC#8, 0xFD#8]

theorem kind_eq_unsupported_iff {op : Byte} :
    i.kind = .unsupported op ↔ op ∈ unsupportedBytes ∧ i = decodePrimary op := by
  constructor
  · intro h
    cases i <;> cases h <;> decide
  · rintro ⟨h, rfl⟩
    have hrow : ∀ b ∈ unsupportedBytes, (decodePrimary b).kind = .unsupported b := by decide
    exact hrow op h

/-- The 11 markers of R260 with their bytes: each is what its byte decodes to. -/
def unsupportedRows : List (Instr × Byte) := unsupportedBytes.map fun b => (decodePrimary b, b)

theorem mem_unsupportedRows_iff {op : Byte} :
    (i, op) ∈ unsupportedRows ↔ op ∈ unsupportedBytes ∧ i = decodePrimary op := by
  simp [unsupportedRows, eq_comm]

theorem exec_eq_unimplemented_iff {m : String} :
    exec i s = .fault (.unimplementedInstruction m) ↔ (i, m) ∈ unimplementedRows := by
  rw [exec_eq_runKind, runKind_eq_fault, ← kind_eq_unimpl_iff]
  simp

theorem exec_eq_unsupported_iff {op : Byte} :
    exec i s = .fault (.unsupportedOpcode op) ↔ op ∈ unsupportedBytes ∧ i = decodePrimary op := by
  rw [exec_eq_runKind, runKind_eq_fault, ← kind_eq_unsupported_iff]
  simp

theorem exec_eq_addressOutOfRange_iff {a : Word} :
    exec i s = .fault (.addressOutOfRange a) ↔ WordAccessFails i.kind s ∧ a = 0xFFFF#16 := by
  rw [exec_eq_runKind, runKind_eq_fault]
  simp

theorem exec_ne_refused (r : Refusal) : exec i s ≠ .refused r := by
  rw [exec_eq_runKind]
  exact runKind_ne_refused r

/-- Settles O44: the failures of `runKind_eq_fault`, and the rows by cases on the instruction. -/
theorem unimplementedExactly : Obligations.UnimplementedExactly := fun _ _ _ => exec_eq_unimplemented_iff

/-- Settles O45: the failures of `runKind_eq_fault`, and the markers by their bytes. -/
theorem unsupportedExactly : Obligations.UnsupportedExactly := fun _ _ _ =>
  exec_eq_unsupported_iff.trans mem_unsupportedRows_iff.symm

/-- Settles O46: the third failure of `runKind_eq_fault`. -/
theorem addressOutOfRangeExactly : Obligations.AddressOutOfRangeExactly := fun _ _ _ => exec_eq_addressOutOfRange_iff

/-- Settles O47: completion by `runKind_eq_next`. -/
theorem completesExactlyWhen : Obligations.CompletesExactlyWhen := by
  refine fun i s => ⟨?_, exec_ne_refused⟩
  simp only [exec_eq_runKind, runKind_eq_next]
  exact ⟨fun ⟨_, h, _⟩ => h, fun h => ⟨_, h, rfl⟩⟩

/-! ## Failures of a step, by its opcode byte -/

/-- A step at the byte `op` makes a 16-bit access at 0xFFFF: in fetching an operand, in a call, in a push or restart, in
a pop or return (the table of R272, by opcode). -/
def StepAccessFails (op : Byte) (s : State) : Prop :=
  ((op ∈ [0x01#8, 0x11#8, 0x21#8, 0x31#8, 0xC3#8] ∨
      ∃ cc, (op, cc) ∈ [(0xC2#8, Cond.nz), (0xCA#8, .z), (0xD2#8, .nc), (0xDA#8, .c)] ∧
        condHolds cc s.flags = true) ∧ s.pc = 0xFFFE#16) ∨
    ((op = 0xCD#8 ∨
      ∃ cc, (op, cc) ∈ [(0xC4#8, Cond.nz), (0xCC#8, .z), (0xD4#8, .nc), (0xDC#8, .c)] ∧
        condHolds cc s.flags = true) ∧ (s.sp = 0x0001#16 ∨ s.pc = 0xFFFE#16)) ∨
    (op ∈ [0xC5#8, 0xD5#8, 0xE5#8, 0xF5#8, 0xC7#8, 0xCF#8, 0xD7#8, 0xDF#8, 0xE7#8, 0xEF#8, 0xF7#8, 0xFF#8] ∧
      s.sp = 0x0001#16) ∨
    ((op ∈ [0xC1#8, 0xD1#8, 0xE1#8, 0xF1#8, 0xC9#8, 0xD9#8] ∨
      ∃ cc, (op, cc) ∈ [(0xC0#8, Cond.nz), (0xC8#8, .z), (0xD0#8, .nc), (0xD8#8, .c)] ∧
        condHolds cc s.flags = true) ∧ s.sp = 0xFFFF#16)

/-- The operand after the opcode starts at 0xFFFF exactly when the opcode is at 0xFFFE. -/
theorem pc_advance_eq_top_iff : (s.advance 1).pc = 0xFFFF#16 ↔ s.pc = 0xFFFE#16 := by
  rw [pc_advance]
  constructor <;> intro h <;> bv_omega

/-- By the decoded form, whose opcode the byte is. -/
theorem stepAccessFails_of_wordAccessFails {op : Byte} (h : WordAccessFails (decodePrimary op).kind (s.advance 1)) :
    StepAccessFails op s := by
  have hop := opcode_kind_decodePrimary op
  generalize (decodePrimary op).kind = k at h hop
  subst hop
  cases k with
  | ld16 r => exact .inl ⟨.inl (by cases r <;> decide), pc_advance_eq_top_iff.mp h⟩
  | jp => exact .inl ⟨.inl (by decide), pc_advance_eq_top_iff.mp h⟩
  | jpcc cc => exact .inl ⟨.inr ⟨cc, by cases cc <;> decide, h.1⟩, pc_advance_eq_top_iff.mp h.2⟩
  | call => exact .inr (.inl ⟨.inl rfl, h.imp_right pc_advance_eq_top_iff.mp⟩)
  | callcc cc =>
    exact .inr (.inl ⟨.inr ⟨cc, by cases cc <;> decide, h.1⟩, h.2.imp_right pc_advance_eq_top_iff.mp⟩)
  | push r => exact .inr (.inr (.inl ⟨by cases r <;> decide, h⟩))
  | rst x => exact .inr (.inr (.inl ⟨by clear h; revert x; decide, h⟩))
  | pop r => exact .inr (.inr (.inr ⟨.inl (by cases r <;> decide), h⟩))
  | ret => exact .inr (.inr (.inr ⟨.inl (by decide), h⟩))
  | reti => exact .inr (.inr (.inr ⟨.inl (by decide), h⟩))
  | retcc cc => exact .inr (.inr (.inr ⟨.inr ⟨cc, by cases cc <;> decide, h.1⟩, h.2⟩))
  | nop | halt | ld8 | ldi8 | sta | lda | alu | aluImm | inc8 | dec8 | inc16 | dec16 | addHL | jr | jrcc | escape
  | ext | unimpl | unsupported => exact h.elim

/-- By the byte, whose decoded form is then known. -/
theorem wordAccessFails_of_stepAccessFails {op : Byte} (h : StepAccessFails op s) :
    WordAccessFails (decodePrimary op).kind (s.advance 1) := by
  simp only [StepAccessFails, List.mem_cons, Prod.mk.injEq, List.not_mem_nil, or_false,
    ← pc_advance_eq_top_iff (s := s)] at h
  obtain ⟨hop | ⟨cc, hop, hc⟩, hpc⟩ | ⟨rfl | ⟨cc, hop, hc⟩, hsp⟩ | ⟨hop, hsp⟩ | ⟨hop | ⟨cc, hop, hc⟩, hsp⟩ := h
  · obtain rfl | rfl | rfl | rfl | rfl := hop
    all_goals exact hpc
  · obtain ⟨rfl, rfl⟩ | ⟨rfl, rfl⟩ | ⟨rfl, rfl⟩ | ⟨rfl, rfl⟩ := hop
    all_goals exact ⟨hc, hpc⟩
  · exact hsp
  · obtain ⟨rfl, rfl⟩ | ⟨rfl, rfl⟩ | ⟨rfl, rfl⟩ | ⟨rfl, rfl⟩ := hop
    all_goals exact ⟨hc, hsp⟩
  · obtain rfl | rfl | rfl | rfl | rfl | rfl | rfl | rfl | rfl | rfl | rfl | rfl := hop
    all_goals exact hsp
  · obtain rfl | rfl | rfl | rfl | rfl | rfl := hop
    all_goals exact hsp
  · obtain ⟨rfl, rfl⟩ | ⟨rfl, rfl⟩ | ⟨rfl, rfl⟩ | ⟨rfl, rfl⟩ := hop
    all_goals exact ⟨hc, hsp⟩

theorem stepWith_ne_refused (r : Refusal) : stepWith cfg s ≠ .refused r := by
  intro h
  obtain hexec | ⟨u, -, hu⟩ := andThen_eq_refused.mp h
  · exact exec_ne_refused r hexec
  · cases hu

theorem stepWith_eq_unsupported_iff {b : Byte} :
    stepWith cfg s = .fault (.unsupportedOpcode b) ↔ b = s.byteAt s.pc ∧ s.byteAt s.pc ∈ unsupportedBytes := by
  rw [stepWith_eq_fault, exec_eq_unsupported_iff]
  constructor
  · rintro ⟨hb, hdecode⟩
    have hop := decodePrimary_injective hdecode
    exact ⟨hop.symm, hop ▸ hb⟩
  · rintro ⟨rfl, hb⟩
    exact ⟨hb, rfl⟩

/-- The rows of R231 to R252 by opcode byte: the decoder takes these to the rows by instruction, and is injective. -/
theorem mem_rows_by_byte {op : Byte} {m : String} {rows : List (Byte × String)}
    (h : unimplementedRows = rows.map (Prod.map decodePrimary id)) :
    (decodePrimary op, m) ∈ unimplementedRows ↔ (op, m) ∈ rows := by
  rw [h]
  exact List.mem_map_of_injective (decodePrimary_injective.prodMap Function.injective_id) (a := (op, m))

/-- Settles O48: a step fails as its execution does, and each failure of an execution is known by the opcode byte. -/
theorem stepFailsExactly : Obligations.StepFailsExactly := by
  rintro cfg s op rfl
  refine ⟨stepWith_ne_refused, fun b => stepWith_eq_unsupported_iff, fun m => ?_, fun a => ?_⟩
  · rw [stepWith_eq_fault, exec_eq_unimplemented_iff]
    exact mem_rows_by_byte rfl
  · rw [stepWith_eq_fault, exec_eq_addressOutOfRange_iff, and_comm]
    exact and_congr_right fun _ => ⟨stepAccessFails_of_wordAccessFails, wordAccessFails_of_stepAccessFails⟩

/-! ## The step as fetch, decode, execute, account (40_step.md R90) -/

theorem stepWith_eq (cfg : Config) (s : State) :
    stepWith cfg s = andThen (exec (decodePrimary (s.byteAt s.pc)) (s.advance 1)) fun t =>
      .next (account cfg (costOf (cfg.cost (s.byteAt s.pc)) (takenBy (decodePrimary (s.byteAt s.pc)) s)) t) := rfl

/-- Whatever the bytes at `pc` decode to, the step runs it with `pc` past its opcode bytes. For the escape and an
extended byte that is what the escape's meaning does. -/
theorem stepWith_of_decode {rest : List Byte}
    (h : decode [s.byteAt s.pc, s.byteAt (s.pc + 1#16)] = some (i, rest)) :
    stepWith cfg s = andThen (exec i (s.advance (encode i).length)) fun t =>
      .next (account cfg (costOf (cfg.cost (s.byteAt s.pc)) (takenBy i s)) t) := by
  obtain ⟨op, -, hbytes, rfl⟩ | ⟨e, hbytes, rfl⟩ := decode_eq_some h
  · obtain rfl : s.byteAt s.pc = op := (List.cons.inj hbytes).1
    rw [encode_decodePrimary]
    rfl
  · obtain ⟨hesc, htail⟩ := List.cons.inj hbytes
    obtain rfl : s.byteAt (s.pc + 1#16) = e := (List.cons.inj htail).1
    have hexec : exec (decodePrimary escapeByte) (s.advance 1) =
        exec (decodeExtended (s.byteAt (s.pc + 1#16))) (s.advance 2) := by
      have hpc : (s.advance 1).advance 1 = s.advance 2 := by
        rw [State.advance, State.advance, pc_setPC, BitVec.add_assoc]
        rfl
      rw [exec_eq_runKind, exec_eq_runKind, decodeExtended, kind_toInstr, ← hpc]
      exact runKind_escape (s.advance 1)
    have htaken : takenBy (decodeExtended (s.byteAt (s.pc + 1#16))) s = false :=
      takenBy_of_condOf_eq_none (by rw [condOf, decodeExtended, kind_toInstr]) s
    rw [stepWith_eq, encode_decodeExtended, htaken, hesc]
    rw [hexec]
    rfl

/-- Settles O13: the first clause is `stepWith_of_decode`, the second the failure of an unsupported byte. -/
theorem stepRunsDecoded : Obligations.StepRunsDecoded := by
  refine ⟨fun cfg s i rest h _ => ?_, fun cfg s hb => stepWith_eq_unsupported_iff.mpr ⟨rfl, hb⟩, fun _ => rfl⟩
  rw [stepWith_of_decode h]
  cases exec i (s.advance (encode i).length) <;> rfl

end

end Sys2Proof.Proofs
end

section
/-! Proofs of the whole-machine rules: who writes the flags, the cell F and SP, and where a step leaves `pc`
(10_state.md). -/

namespace Sys2Proof.Proofs

open Sys2Proof.Machine

section
variable {s t : State} {i : Instr} {k : Kind}

/-! ## The flags (R19) -/

@[simp] theorem flags_returned (s : State) : (returned s).flags = s.flags := rfl

@[simp] theorem flags_called (s : State) : (called s).flags = s.flags := by
  rw [called, flags_setPC, flags_pushed]

theorem flags_afterKind (h : ¬ WritesFlags k) (s : State) : (afterKind k s).flags = s.flags := by
  cases k with
  | alu | aluImm | inc8 | dec8 | addHL | escape => exact absurd trivial h
  | ext x =>
    cases x with
    | rot | bit => exact absurd trivial h
    | res | set => simp [afterKind, afterExt]
  | jpcc | jrcc | callcc | retcc => simp only [afterKind]; split <;> simp
  | rst x => rw [afterKind, flags_setPC, flags_pushed]
  | nop | halt | ld8 | ldi8 | sta | lda | ld16 | inc16 | dec16 | push | pop | jp | jr | call | ret | reti
  | unimpl | unsupported => simp [afterKind]

/-! ## The cell F (R11) -/

@[simp] theorem cell_f_writeR8 (z : R8) (v : Byte) (s : State) : (writeR8 z v s).cell .f = s.cell .f :=
  keepsCells_writeR8 s z v .f (by cases z <;> decide)

@[simp] theorem cell_f_readPair (v : MemView) (s : State) : (readPair (memView v) s).2.cell .f = s.cell .f :=
  keepsCells_readPair s v .f (by cases v <;> decide)

@[simp] theorem cell_f_writeR16 (r : R16) (v : Word) (s : State) : (writeR16 r v s).cell .f = s.cell .f :=
  keepsCells_writeR16 s r v .f (by cases r <;> decide)

@[simp] theorem cell_f_aluApply (f : AluOp) (v : Byte) (s : State) : (aluApply f v s).cell .f = s.cell .f :=
  keepsCells_aluApply f v s .f (by decide)

theorem cell_f_writeR16S {r : R16S} (h : r ≠ .af) (v : Word) (s : State) :
    (writeR16S r v s).cell .f = s.cell .f :=
  keepsCells_writeR16S s r v .f (by cases r <;> first | exact absurd rfl h | decide)

@[simp] theorem cell_returned (s : State) (x : Cell) : (returned s).cell x = s.cell x := by
  rw [returned, cell_setPC, cell_setSP]

@[simp] theorem cell_called (s : State) (x : Cell) : (called s).cell x = s.cell x := by
  rw [called, cell_setPC, cell_pushed]

@[simp] theorem cell_f_afterExt (x : ExtOp) (s : State) : (afterExt x s).cell .f = s.cell .f := by
  cases x <;> simp [afterExt]

theorem cell_f_afterKind (h : k ≠ .pop .af) (s : State) : (afterKind k s).cell .f = s.cell .f := by
  cases k with
  | pop r => exact (cell_f_writeR16S (fun hr => h (hr ▸ rfl)) _ _).trans (cell_setSP s _ .f)
  | jpcc | jrcc | callcc | retcc => simp only [afterKind]; split <;> simp
  | nop | halt | ld8 | ldi8 | sta | lda | alu | aluImm | inc8 | dec8 | ld16 | inc16 | dec16 | addHL | push | jp | jr
  | call | ret | reti | rst | escape | ext | unimpl | unsupported => simp [afterKind]

theorem eq_pop_AF_of_kind (h : i.kind = .pop .af) : i = .pop_AF := by
  cases i <;> cases h
  rfl

/-! ## SP (R14) -/

@[simp] theorem sp_afterExt (x : ExtOp) (s : State) : (afterExt x s).sp = s.sp := (runExt_keeps (runExt_eq x s)).1

theorem sp_afterKind (h : ¬ WritesSP k) (s : State) : (afterKind k s).sp = s.sp := by
  cases k with
  | ld16 r | inc16 r | dec16 r =>
    have hr : r ≠ .sp := fun hr => h (hr ▸ trivial)
    simp [afterKind, sp_writeR16, hr]
  | push | pop | call | callcc | ret | retcc | reti | rst => exact absurd trivial h
  | jpcc | jrcc => simp only [afterKind]; split <;> simp
  | nop | halt | ld8 | ldi8 | sta | lda | alu | aluImm | inc8 | dec8 | addHL | jp | jr | escape | ext | unimpl
  | unsupported => simp [afterKind]

/-- Settles O49: the state an instruction leaves is that of its decoded form, for which each clause has its lemma. -/
theorem writersOfFlagsFAndSP : Obligations.WritersOfFlagsFAndSP := by
  intro i s t h
  rw [afterKind_of_exec h]
  exact ⟨fun hk => flags_afterKind hk s, fun hi => cell_f_afterKind (mt eq_pop_AF_of_kind hi) s,
    fun hk => sp_afterKind hk s⟩

/-! ## `pc` (R23, R24) -/

@[simp] theorem pc_afterExt (x : ExtOp) (s : State) : (afterExt x s).pc = s.pc := (runExt_keeps (runExt_eq x s)).2.1

/-- An instruction that transfers no control passes its operand bytes; the escape, which fetches an opcode byte, is left
out. -/
theorem pc_afterKind (ht : ¬ TransfersControl i.kind) (hx : ¬ HasNoExecution i.kind) (he : i.kind ≠ .escape)
    (s : State) : (afterKind i.kind s).pc = s.pc + BitVec.ofNat 16 i.operandBytes := by
  unfold Instr.operandBytes Instr.format
  cases hk : i.kind with
  | jp | jpcc | jr | jrcc | call | callcc | ret | retcc | reti | rst => rw [hk] at ht; exact absurd trivial ht
  | unimpl | unsupported => rw [hk] at hx; exact absurd trivial hx
  | escape => exact absurd hk he
  | nop | halt | ld8 | ldi8 | sta | lda | alu | aluImm | inc8 | dec8 | ld16 | inc16 | dec16 | addHL | push | pop
  | ext => simp [afterKind, Format.operandBytes]

/-- The opcode bytes and the operand bytes are the whole instruction (30_encoding.md R61, R62). -/
theorem encode_length_add_operandBytes (hx : ¬ HasNoExecution i.kind) (he : i.kind ≠ .escape) :
    (encode i).length + i.operandBytes = i.length := by
  unfold Instr.length Instr.operandBytes Instr.format encode
  cases hk : i.kind with
  | unimpl | unsupported => rw [hk] at hx; exact absurd trivial hx
  | escape => exact absurd hk he
  | _ => rfl

/-- The decoder never answers the bare escape (30_encoding.md R72). -/
theorem kind_ne_escape_of_decode {bytes rest : List Byte} (h : decode bytes = some (i, rest)) :
    i.kind ≠ .escape := by
  intro hk
  obtain ⟨op, hop, -, rfl⟩ | ⟨e, -, rfl⟩ := decode_eq_some h
  · exact hop (by rw [← opcode_kind_decodePrimary op, hk]; rfl)
  · rw [decodeExtended, kind_toInstr] at hk
    cases hk

/-- Settles O50: the step passes the opcode bytes, the execution the operand bytes, and the scheduler moves no `pc`. -/
theorem sequentialSteps : Obligations.SequentialSteps := by
  intro cfg s t i rest hdecode ht h
  rw [stepWith_of_decode hdecode] at h
  obtain ⟨u, hexec, hu⟩ := andThen_eq_next.mp h
  injection hu with hu
  have hx : ¬ HasNoExecution i.kind := by
    rw [exec_eq_runKind] at hexec
    exact (runKind_eq_next.mp hexec).1.1
  have he := kind_ne_escape_of_decode hdecode
  rw [← hu, pc_account, afterKind_of_exec hexec, pc_afterKind ht hx he, toNat_add_ofNat16, pc_advance, toNat_add_ofNat16,
    Nat.mod_add_mod, Nat.add_assoc, encode_length_add_operandBytes hx he]

end

end Sys2Proof.Proofs
end

section
/-! Proofs of the statements on the Timing Scheduler and on reset (60_exceptions.md, 70_reset_and_hazards.md). -/

namespace Sys2Proof.Proofs

open Sys2Proof.Machine

section
variable {s t : State} {cfg : Config}

/-! ## One accounting (60_exceptions.md R280, R281) -/

theorem toNat_nextScanline (cfg : Config) (y : Byte) :
    (nextScanline cfg y).toNat = if cfg.scanlineMax < (y.toNat + 1) % 256 then 0 else (y.toNat + 1) % 256 := by
  have hy : (y + 1#8).toNat = (y.toNat + 1) % 256 := BitVec.toNat_add y 1#8
  rw [nextScanline, hy, apply_ite BitVec.toNat, hy]
  rfl

/-- Settles O52: below the threshold by `account_of_lt`, at or past it by `account_of_ge`, where the one store is that of
the scanline byte. -/
theorem accountAndScanline : Obligations.AccountAndScanline := by
  refine fun cfg n s => ⟨fun hlt => ?_, fun hge => ?_⟩
  · rw [account_of_lt hlt]
    exact ⟨rfl, fun a _ => byteAt_setCyc s _ a⟩
  · rw [account_of_ge hge, advanceScanline, byteAt_setCyc]
    refine ⟨rfl, keepsBytes_setByte _ _ _, ?_⟩
    rw [byteAt_setByte_self, toNat_nextScanline]

/-! ## Many accountings (70_reset_and_hazards.md R313) -/

theorem advanceScanline_setCyc (cfg : Config) (s : State) (n : Nat) :
    advanceScanline cfg (s.setCyc n) = (advanceScanline cfg s).setCyc n := by
  rw [advanceScanline, byteAt_setCyc, setByte_setCyc, advanceScanline]

/-- Costs that reach the threshold exactly with the last of them, from any counter below it: the accountings before the
last only add, and the last one advances. -/
theorem foldl_account_of_sum_eq (costs : List Nat) (hlt : s.cyc < cfg.cyclesPerScanline)
    (hpartial : ∀ k, k < costs.length → s.cyc + (costs.take k).sum < cfg.cyclesPerScanline)
    (hsum : s.cyc + costs.sum = cfg.cyclesPerScanline) :
    costs.foldl (fun u n => account cfg n u) s = advanceScanline cfg (s.setCyc 0) := by
  induction costs generalizing s with
  | nil => exact absurd hsum (Nat.ne_of_lt hlt)
  | cons n costs ih =>
    rw [List.sum_cons] at hsum
    rw [List.foldl_cons]
    by_cases hlast : costs = []
    · subst hlast
      rw [account_of_ge (by simpa using hsum.ge)]
      rfl
    · have hn : s.cyc + n < cfg.cyclesPerScanline := by
        simpa using hpartial 1 (by simpa using List.length_pos_iff.mpr hlast)
      rw [account_of_lt hn, ih (s := s.setCyc (s.cyc + n)) hn (fun k hk => ?_) (by rw [cyc_setCyc, ← hsum, Nat.add_assoc])]
      · rfl
      · have hk' := hpartial (k + 1) (Nat.succ_lt_succ hk)
        rwa [List.take_succ_cons, List.sum_cons, ← Nat.add_assoc] at hk'

/-- Settles O53: the fold from a counter at 0. -/
theorem exactSumAdvancesOnce : Obligations.ExactSumAdvancesOnce := by
  rintro cfg costs s t hpos hcyc hpartial hsum rfl
  rw [foldl_account_of_sum_eq costs (hcyc ▸ hpos) (by simpa [hcyc] using hpartial) (by rw [hcyc, Nat.zero_add, hsum]),
    advanceScanline_setCyc]
  exact ⟨rfl, rfl⟩

/-! ## Costs (R310, R311) -/

/-- Settles O54: the two kinds of entry by their equations, the default table by its 256 entries. -/
theorem costTable : Obligations.CostTable := ⟨fun _ _ => rfl, fun _ _ _ => rfl, by decide⟩

/-! ## Timing independence (section 4) -/

/-- Settles O55: the execution ignores the counter, and each of the two schedulers keeps all but the scanline byte. -/
theorem timingIndependence : Obligations.TimingIndependence := by
  intro cfg cfg' s t n haddr h
  obtain ⟨u, hexec, rfl⟩ := stepWith_eq_next h
  have hexec' := (ignoresCyc_exec _).next hexec n
  refine ⟨_, by rw [stepWith_eq, byteAt_setCyc, pc_setCyc, advance_setCyc, hexec', andThen_next],
    fun x _ => ?_, fun a ha => ?_, ?_, ?_, ?_⟩
  · rw [cell_account, cell_account, cell_setCyc]
  · have hne : a ≠ cfg.scanlineAddr := List.ne_of_not_mem_cons ha
    rw [byteAt_account _ _ _ (haddr ▸ hne), byteAt_account _ _ _ hne, byteAt_setCyc]
  · rw [sp_account, sp_account, sp_setCyc]
  · rw [pc_account, pc_account, pc_setCyc]
  · rw [flags_account, flags_account, flags_setCyc]

/-! ## Reset (R300, R301; 10_state.md R30) -/

/-- Settles O57: a read of the loaded image over a read of the filled memory. -/
theorem bootImageLoaded : Obligations.BootImageLoaded := by
  intro cfg a
  have hread : (State.resetWith cfg).byteAt a =
      memRead (memLoad (memFilled cfg.memFill) cfg.bootBase.toNat cfg.bootImage) a.toNat := rfl
  rw [hread, memRead_memLoad _ _ _ _ a.isLt, memRead_memFilled _ _ a.isLt, List.getD_eq_getElem?_getD]

/-- Settles O56: every field of the default state, memory by O57 with the empty image. -/
theorem resetValues : Obligations.ResetValues := by
  refine ⟨rfl, rfl, fun x => by cases x <;> rfl, rfl, rfl, fun a => ?_⟩
  rw [State.reset, bootImageLoaded defaultConfig a]
  exact ite_self _

theorem inv_resetWith (h : 0 < cfg.cyclesPerScanline) : Inv cfg (State.resetWith cfg) :=
  ⟨wf_memLoad (wf_memFilled cfg.memFill) _ _, h⟩

/-- Settles O58: the filled and loaded memory is canonical, and the counter starts at 0. -/
theorem resetInvariant : Obligations.ResetInvariant :=
  ⟨fun _ h => inv_resetWith h, inv_resetWith (cfg := defaultConfig) (by decide)⟩

end

end Sys2Proof.Proofs
end
